-- ==== Sys2Proof/Word.lean ====
section
/-! DEFINITION. The word types of the CORE and nothing else: a byte, a 32-bit CSR value, a 128-bit block and a byte
string (00_scope.md R7). Byte-order and bit-field helpers stand in Machine/Operands.lean. -/

namespace Sys2Proof

/-- A byte (R7). -/
abbrev Byte := BitVec 8

/-- A 32-bit quantity: a CSR, a command word, a round-key or Blowfish word (R7, R21). -/
abbrev Word := BitVec 32

/-- A 128-bit GHASH value, the integer BE(B) of a 16-byte string B (R160). -/
abbrev Block := BitVec 128

/-- A byte string, first byte first (R7). -/
abbrev Bytes := List Byte

end Sys2Proof
end

