-- ==== Sys2Proof/Config.lean ====
section
/-! DEFINITION. What an implementation fixes (the parameters of 00_scope.md R5) and the free values (the draws of
93_implementation_defined.md Part 1). A model takes the parameters as arguments; here they stand in State.params, which
no step changes, so that a statement over all states is a statement over all parameters (log entry 1). -/

namespace Sys2Proof

/-- The implementation parameters of R5. -/
structure Params where
  /-- DMEM_BYTES, the size of the data memory. -/
  dmemBytes : Nat
  /-- LMAX, the largest big-integer operand length in bytes. -/
  lmax : Nat
  /-- AES192, whether 24-byte AES keys are accepted. -/
  aes192 : Bool
  /-- BASE_CSR, the host address of the register window. -/
  baseCsr : Nat
  /-- BASE_DMEM, the host address of the DMEM window. -/
  baseDmem : Nat
  deriving DecidableEq, Repr

/-- The defaults of R5. DESIGN CHOICE (log entry 2, unsafe): the spec leaves both base addresses to the platform
(D49); 0 and 4096 put the DMEM window right above the register window. -/
def Params.default : Params :=
  { dmemBytes := 8192, lmax := 512, aes192 := false, baseCsr := 0, baseDmem := 4096 }

/-- The byte at DMEM address `addr` after the power-on numbered `epoch`, before anything writes it (R280): a draw. -/
opaque Config.powerOnByte (epoch addr : Nat) : Byte

/-- What a host DMEM read returns while BUSY = 1 (R66), for the draw numbered `n`: a draw. -/
opaque Config.busyReadValue (n : Nat) : Word

/-- What the output byte at DMEM address `addr` of a command abandoned by a soft reset holds (R282), for the draw
numbered `n`: a draw. -/
opaque Config.abandonedByte (n addr : Nat) : Byte

end Sys2Proof
end

