-- ==== Sys2Proof/Syntax.lean ====
section
/-! DEFINITION. The command set CORE-CMD: one constructor per row of the opcode map (30_encoding.md R93). -/

namespace Sys2Proof

/-- A command. Its operands are the latched ARG registers (R91), so the only operand inside the word is the
validate bit V of EC_ADD and EC_DBL (R90, R95). -/
inductive Instr where
  | nop
  | zeroize
  | aesKey
  | aesEnc
  | aesDec
  | bfKey
  | bfEnc
  | bfDec
  | ghSetH
  | ghDeriveH
  | ghClear
  | ghLoadX
  | ghUpdate
  | ghStoreX
  | gfMul
  | ctCompare
  | ecAdd (v : Bool)
  | ecDbl (v : Bool)
  | ecCheck
  | x25519
  | x448
  | modexp
  | berTag
  | berSeq
  | berInt
  deriving DecidableEq, Repr

end Sys2Proof
end

