-- ==== Sys2Proof/WellFormed.lean ====
section
/-! DEFINITION. Which commands and which parameters the spec admits. A host access is checked where it is performed,
in Machine/HostPort.lean. -/

namespace Sys2Proof

/-- Every value of Instr is a command of R93: V exists only where R95 allows it, and Instr has no other field, so
there is nothing ill-formed to refuse. -/
def Instr.wellFormed : Instr → Bool
  | .nop | .zeroize => true
  | .aesKey | .aesEnc | .aesDec => true
  | .bfKey | .bfEnc | .bfDec => true
  | .ghSetH | .ghDeriveH | .ghClear | .ghLoadX | .ghUpdate | .ghStoreX | .gfMul | .ctCompare => true
  | .ecAdd _ | .ecDbl _ | .ecCheck => true
  | .x25519 | .x448 | .modexp => true
  | .berTag | .berSeq | .berInt => true

/-- DMEM_BYTES is a multiple of 256 in [1024, 65536] (R5). -/
def Params.dmemOk (p : Params) : Bool :=
  p.dmemBytes % 256 == 0 && 1024 ≤ p.dmemBytes && p.dmemBytes ≤ 65536

/-- LMAX lies in [66, 4095] (R5). -/
def Params.lmaxOk (p : Params) : Bool :=
  66 ≤ p.lmax && p.lmax ≤ 4095

/-- The two windows of R60 do not overlap. DEDUCED (log entry 2, safe): a host address selects one window. -/
def Params.windowsOk (p : Params) : Bool :=
  p.baseCsr + 4096 ≤ p.baseDmem || p.baseDmem + p.dmemBytes ≤ p.baseCsr

/-- The parameters R5 admits. -/
def Params.wellFormed (p : Params) : Bool :=
  p.dmemOk && p.lmaxOk && p.windowsOk

end Sys2Proof
end

