-- ==== Sys2Proof/Decode.lean ====
section
/-! DEFINITION. Decoding a CMD word (30_encoding.md R96, by the masks of opcode_table.json), and after it the encoder
(R90, R93). Decoding is total: a reserved word is rejected under the name of what makes it reserved (R97). -/

namespace Sys2Proof

/-- Why a CMD word is reserved (R97): a bit of [31:9] set, an OP outside the map, or V = 1 outside EC_ADD and EC_DBL. -/
inductive DecodeError where
  | reservedBits
  | reservedOp
  | reservedV
  deriving DecidableEq, Repr

/-- A row of the opcode table: a word selects it when `word AND mask = pattern` (R96); `command` takes bit 8. -/
structure OpcodeRow where
  mask : Word
  pattern : Word
  command : Bool → Instr

/-- A row whose every bit is fixed. -/
def OpcodeRow.fixed (pattern : Word) (i : Instr) : OpcodeRow :=
  { mask := 0xFFFFFFFF, pattern := pattern, command := fun _ => i }

/-- A row whose bit 8 is the field V. -/
def OpcodeRow.withV (pattern : Word) (f : Bool → Instr) : OpcodeRow :=
  { mask := 0xFFFFFEFF, pattern := pattern, command := f }

/-- The opcode table (R93), symmetric and control units. -/
def opcodeRowsSymmetric : List OpcodeRow :=
  [ .fixed 0x00000000 .nop,
    .fixed 0x00000001 .zeroize,
    .fixed 0x00000010 .aesKey,
    .fixed 0x00000011 .aesEnc,
    .fixed 0x00000012 .aesDec,
    .fixed 0x00000018 .bfKey,
    .fixed 0x00000019 .bfEnc,
    .fixed 0x0000001A .bfDec,
    .fixed 0x00000020 .ghSetH,
    .fixed 0x00000021 .ghDeriveH,
    .fixed 0x00000022 .ghClear,
    .fixed 0x00000023 .ghLoadX,
    .fixed 0x00000024 .ghUpdate,
    .fixed 0x00000025 .ghStoreX,
    .fixed 0x00000026 .gfMul,
    .fixed 0x00000027 .ctCompare ]

/-- The opcode table (R93), big-integer and BER units. -/
def opcodeRowsBig : List OpcodeRow :=
  [ .withV 0x00000030 .ecAdd,
    .withV 0x00000031 .ecDbl,
    .fixed 0x00000032 .ecCheck,
    .fixed 0x00000038 .x25519,
    .fixed 0x00000039 .x448,
    .fixed 0x00000040 .modexp,
    .fixed 0x00000048 .berTag,
    .fixed 0x00000049 .berSeq,
    .fixed 0x0000004A .berInt ]

/-- The opcode table (R93). -/
def opcodeRows : List OpcodeRow := opcodeRowsSymmetric ++ opcodeRowsBig

/-- Whether a word selects a row (R96). -/
def OpcodeRow.selects (r : OpcodeRow) (w : Word) : Bool := w &&& r.mask == r.pattern

/-- Whether an operation code stands in the map (R97). -/
def opInMap (op : BitVec 8) : Bool := opcodeRows.any (fun r => r.pattern.truncate 8 == op)

/-- What makes an unselected word reserved (R97). -/
def reservedReason (w : Word) : DecodeError :=
  if w >>> 9 ≠ 0 then .reservedBits
  else if opInMap (w.truncate 8) then .reservedV
  else .reservedOp

/-- The decoder of R96: the one row the word selects, or the name of why it is reserved. -/
def decode (w : Word) : Except DecodeError Instr :=
  match opcodeRows.find? (fun r => r.selects w) with
  | some r => .ok (r.command (w.getLsbD 8))
  | none => .error (reservedReason w)

/-- The OP field of a command's word (R93). -/
def Instr.opcode : Instr → BitVec 8
  | .nop => 0x00
  | .zeroize => 0x01
  | .aesKey => 0x10
  | .aesEnc => 0x11
  | .aesDec => 0x12
  | .bfKey => 0x18
  | .bfEnc => 0x19
  | .bfDec => 0x1A
  | .ghSetH => 0x20
  | .ghDeriveH => 0x21
  | .ghClear => 0x22
  | .ghLoadX => 0x23
  | .ghUpdate => 0x24
  | .ghStoreX => 0x25
  | .gfMul => 0x26
  | .ctCompare => 0x27
  | .ecAdd _ => 0x30
  | .ecDbl _ => 0x31
  | .ecCheck => 0x32
  | .x25519 => 0x38
  | .x448 => 0x39
  | .modexp => 0x40
  | .berTag => 0x48
  | .berSeq => 0x49
  | .berInt => 0x4A

/-- The V field of a command's word (R90, R95). -/
def Instr.vBit : Instr → Bool
  | .ecAdd v => v
  | .ecDbl v => v
  | .nop | .zeroize | .aesKey | .aesEnc | .aesDec | .bfKey | .bfEnc | .bfDec => false
  | .ghSetH | .ghDeriveH | .ghClear | .ghLoadX | .ghUpdate | .ghStoreX | .gfMul | .ctCompare => false
  | .ecCheck | .x25519 | .x448 | .modexp | .berTag | .berSeq | .berInt => false

/-- The CMD word of a command: RSV = 0, then V, then OP (R90). -/
def encode (i : Instr) : Word :=
  (0#23 ++ BitVec.ofBool i.vBit) ++ i.opcode

/-- What the decoder reads from an instruction of `nbits` bits holding `w`, bit 0 the least significant bit of the
CMD word. A command is one CMD write of 32 bits (R99), so bits of `w` at and above `nbits` are not part of it. -/
def decodeTableWord (nbits w : Nat) : Option Instr :=
  (decode (BitVec.ofNat 32 (w % 2 ^ nbits))).toOption

end Sys2Proof
end

