-- ==== Sys2Proof/Machine/State.lean ====
section
/-! DEFINITION. The state of the CORE as plain data (10_state.md), its reset (R42), and the reasons a step can stop. -/

namespace Sys2Proof.Machine

/-- PHASE (R36). STATUS.BUSY = 1 exactly when it is `running`. -/
inductive Phase where
  | idle
  | running
  deriving DecidableEq, Repr

/-- The error codes of 60_exceptions.md R251 but NONE, which ERRCODE holds as `none` (log entry 17). -/
inductive ErrCode where
  | badCmd
  | keyLen
  | noKey
  | addr
  | len
  | modulus
  | range
  | point
  | noInv
  deriving DecidableEq, Repr

/-- RES0 to RES3 (R29). -/
structure ResRegs where
  res0 : Word
  res1 : Word
  res2 : Word
  res3 : Word
  deriving DecidableEq, Repr

/-- RES0 to RES3 all 0 (R42, R111). -/
def ResRegs.zero : ResRegs := { res0 := 0, res1 := 0, res2 := 0, res3 := 0 }

/-- The AES unit (R31): RK[0..59], AES_NK, AES_NR and AES_KV. -/
structure AesUnit where
  rk : Vector Word 60
  nk : Nat
  nr : Nat
  kv : Bool
  deriving DecidableEq, Repr

/-- The AES unit with no key (R42, R111). -/
def AesUnit.zero : AesUnit := { rk := Vector.replicate 60 0, nk := 0, nr := 0, kv := false }

/-- The Blowfish unit (R33): P[0..17], S[0..3][0..255] and BF_KV. -/
structure BfUnit where
  p : Vector Word 18
  s : Vector (Vector Word 256) 4
  kv : Bool
  deriving DecidableEq, Repr

/-- The Blowfish unit with no key (R42, R111). -/
def BfUnit.zero : BfUnit :=
  { p := Vector.replicate 18 0, s := Vector.replicate 4 (Vector.replicate 256 0), kv := false }

/-- The GH unit (R35): H and X, each as the integer BE of its 16-byte string (R160), and H_V. -/
structure GhUnit where
  h : Block
  x : Block
  hv : Bool
  deriving DecidableEq, Repr

/-- The GH unit with no subkey and a zero accumulator (R42, R111). -/
def GhUnit.zero : GhUnit := { h := 0, x := 0, hv := false }

/-- The written cells of DMEM (R40), addresses strictly rising. An unlisted address has not been written since
power-on and reads as the draw of State.readByte (log entry 3). -/
abbrev Memory := List Host.Cell

/-- What the outside can do to the CORE: a host read or write at a host address, `size` bytes wide (R60 to R63), or the
platform's power-on reset (R274, R280). -/
inductive HostInput where
  | read (addr size : Nat)
  | write (addr size : Nat) (value : Word)
  | powerOn
  deriving DecidableEq, Repr

/-- A host input still to come. `early` says that it reaches the CORE before the command then running completes; it
says nothing when none is running. The spec leaves that order open (R296), so it is data (log entry 6). -/
structure HostEvent where
  early : Bool
  input : HostInput
  deriving DecidableEq, Repr

/-- No step faults: the spec models no behaviour of the CORE as a fault or as stuck (93_implementation_defined.md,
end of Part 1), and a failing command is a completion with an ERRCODE, a next state (R253). So there is no reason to
list, and nothing raises one. -/
inductive Fault where
  deriving DecidableEq, Repr

/-- Why a step has no meaning. -/
inductive Refusal where
  /-- An instruction with no meaning yet, raised by an arm of exec only. Safe: nothing is claimed of it. No arm of this
  model raises it. -/
  | notModelled (mnemonic : String)
  /-- A host access to the register window that is not 32 bits wide or not at a multiple of 4 (R61), raised by the host
  port. Safe: the spec says a model refuses it. -/
  | csrProtocol
  /-- A host access to the DMEM window that is not 8, 16 or 32 bits wide, not naturally aligned, or not wholly inside
  (R62), raised by the host port. Safe: the spec says a model refuses it. -/
  | dmemProtocol
  /-- A host access to an address in neither window, which the CORE does not decode (R60), raised by the host port. Safe:
  nothing is claimed of it (log entry 12). -/
  | outsideWindows
  deriving DecidableEq, Repr

/-- The state of the CORE (10_state.md), and below it four fields of the model's own (log entries 3 to 7). Registers
that equal other state at every instant (BUSY, ERR, AES_KV, BF_KV, H_V, IRQ, ID, VERSION, CONFIG) are computed in
Machine/Flags.lean. -/
structure State where
  /-- The parameters of R5, which no step changes (log entry 1). -/
  params : Params
  /-- CTRL.IRQ_EN (R24). -/
  irqEn : Bool
  /-- STATUS.DONE (R25). -/
  done : Bool
  /-- STATUS.RESULT (R25). -/
  result : Bool
  /-- STATUS.OVERRUN (R25). -/
  overrun : Bool
  /-- STATUS.ACCERR (R25). -/
  accerr : Bool
  /-- ERRCODE (R28), `none` for NONE. -/
  errcode : Option ErrCode
  /-- ARG0 to ARG7 (R27). -/
  arg : Vector Word 8
  /-- RES0 to RES3 (R29). -/
  res : ResRegs
  /-- BER_POS (R30). -/
  berPos : Word
  /-- BER_END (R30). -/
  berEnd : Word
  /-- PHASE, and so STATUS.BUSY (R36). -/
  phase : Phase
  /-- CMDL, the issued command word, which CMD reads as (R26, R36). -/
  cmdl : Word
  /-- ARGL[0..7], the latched arguments (R26, R36). -/
  argl : Vector Word 8
  /-- The AES unit (R31). -/
  aes : AesUnit
  /-- The Blowfish unit (R33). -/
  bf : BfUnit
  /-- The GH unit (R35). -/
  gh : GhUnit
  /-- DMEM (R40). -/
  dmem : Memory
  /-- The model's own: which power-on the unlisted DMEM bytes draw from. -/
  epoch : Nat
  /-- The model's own: how many draws have been taken. -/
  draws : Nat
  /-- The model's own: the host inputs still to come, in arrival order (R80). -/
  inbox : List HostEvent
  /-- The model's own: the values host reads have returned, oldest first. -/
  replies : List Word
  deriving DecidableEq, Repr

/-- The state after power-on reset (R42, R280) of a CORE with the given parameters. -/
def State.powerOn (p : Params) : State :=
  { params := p
    irqEn := false
    done := false
    result := false
    overrun := false
    accerr := false
    errcode := none
    arg := Vector.replicate 8 0
    res := ResRegs.zero
    berPos := 0
    berEnd := 0
    phase := .idle
    cmdl := 0
    argl := Vector.replicate 8 0
    aes := AesUnit.zero
    bf := BfUnit.zero
    gh := GhUnit.zero
    dmem := []
    epoch := 0
    draws := 1
    inbox := []
    replies := [] }

/-- The machine right after power-on reset with the default parameters of R5. -/
def State.reset : State := State.powerOn Params.default

end Sys2Proof.Machine
end

