-- ==== Sys2Proof/Machine/Ops.lean ====
section
/-! DEFINITION. The named operations every meaning is written over: DMEM cells, MemRead and MemWrite (20_memory.md R70,
R71), the writes of a command's rule (Effect), issuing a command (10_state.md R26) and completing one (60_exceptions.md
R253), success and error alike. Completion with an error is the CORE's only exception: R264 and R265 give it no vector,
no saved context and no return, so there is one shared operation for it and none beside it. -/

namespace Sys2Proof.Machine

/-- The byte a written cell holds, none for an address nothing has written since power-on. -/
def Memory.read? (m : Memory) (a : Nat) : Option Byte := List.lookup a m

/-- The cells of a byte string laid out from address `a` upwards. -/
def Memory.cells (a : Nat) : Bytes → Memory
  | [] => []
  | b :: bs => (a, b) :: Memory.cells (a + 1) bs

/-- MemWrite of `bs` at `a` (R71): those bytes and no other. -/
def Memory.write (m : Memory) (a : Nat) (bs : Bytes) : Memory :=
  m.filter (fun c => c.1 < a) ++ Memory.cells a bs ++ m.filter (fun c => a + bs.length ≤ c.1)

/-- The canonical form: addresses strictly rising. -/
abbrev Memory.wf (m : Memory) : Prop := m.Pairwise (fun c d => c.1 < d.1)

/-- Every listed cell lies in a DMEM of `n` bytes (R40). -/
abbrev Memory.below (m : Memory) (n : Nat) : Prop := ∀ c ∈ m, c.1 < n

/-- What an unlisted address reads as: the draw of the power-on in force (R280, log entry 3). -/
def State.unlistedByte (s : State) (a : Nat) : Byte := Config.powerOnByte s.epoch a

/-- The byte at DMEM address `a` (R40). -/
def State.readByte (s : State) (a : Nat) : Byte := (s.dmem.read? a).getD (s.unlistedByte a)

/-- MemRead(a, n) (R70). -/
def State.memRead (s : State) (a n : Nat) : Bytes := (List.range' a n).map s.readByte

/-- The writes of a command's rule that ends in success or in a negative result (R253, case Ok): the Boolean of
result(b), and the state the rule writes. Whatever is absent keeps its value, so an instruction's frame is read off
the fields its rule gives. -/
structure Effect where
  /-- The Boolean of result(b). -/
  result : Bool
  /-- The one MemWrite of the rule: address and bytes. -/
  dmem : Option (Nat × Bytes) := none
  aes : Option AesUnit := none
  bf : Option BfUnit := none
  gh : Option GhUnit := none
  res : Option ResRegs := none
  berPos : Option Word := none

/-- A negative result of a BER command, of EC_CHECK or of CT_COMPARE: result(0) and no write (R234, R250). -/
def Effect.negative : Effect := { result := false }

/-- The writes of a rule applied to the state (R253, "apply the rule's writes"). -/
def Effect.apply (e : Effect) (s : State) : State :=
  { s with
    dmem := match e.dmem with
      | some (a, bs) => s.dmem.write a bs
      | none => s.dmem
    aes := e.aes.getD s.aes
    bf := e.bf.getD s.bf
    gh := e.gh.getD s.gh
    res := e.res.getD s.res
    berPos := e.berPos.getD s.berPos }

/-- The end of a command (R253): RESULT, ERRCODE, BUSY <- 0, PHASE <- IDLE, DONE <- 1. -/
def State.finish (s : State) (result : Bool) (errcode : Option ErrCode) : State :=
  { s with result := result, errcode := errcode, phase := .idle, done := true }

/-- Completion with Error(code): none of the rule's writes is applied (R253, R254). -/
def State.completeError (s : State) (code : ErrCode) : State := s.finish false (some code)

/-- Completion with Ok (R253): the rule's writes, RESULT and ERRCODE = 0. -/
def State.completeOk (s : State) (e : Effect) : State := (e.apply s).finish e.result none

/-- The completion step (R253), given the outcome of the command's rule. -/
def State.complete (s : State) : Except ErrCode Effect → State
  | .ok e => s.completeOk e
  | .error code => s.completeError code

/-- The issue of the word `w` (R26). -/
def State.issue (s : State) (w : Word) : State :=
  { s with cmdl := w, argl := s.arg, phase := .running, done := false, result := false, errcode := none }

/-- A command's meaning: its rule run and completed in one atomic step (R253, log entry 9). -/
def runRule (r : State → Except ErrCode Effect) (s : State) : Host.Outcome State Fault Refusal :=
  .next (s.complete (r s))

end Sys2Proof.Machine
end

