-- ==== Sys2Proof/Machine/Operands.lean ====
section
/-! DEFINITION. Operands: the byte-string notation of 00_scope.md R7, the latched arguments (R8), and the checks every
rule begins with (20_memory.md R72; the order of 60_exceptions.md R255). -/

namespace Sys2Proof.Machine

/-- BE(s) (R7): the unsigned integer whose most significant byte is the first. -/
def beNat (s : Bytes) : Nat := s.foldl (fun acc b => acc * 256 + b.toNat) 0

/-- LE(s) (R7): the unsigned integer whose least significant byte is the first. -/
def leNat (s : Bytes) : Nat := beNat s.reverse

/-- SBE(s) (R7): the two's-complement value of s read big-endian, 0 for the empty string. -/
def signedBe (s : Bytes) : Int :=
  match s with
  | [] => 0
  | b :: _ => if b.msb then (beNat s : Int) - 2 ^ (8 * s.length) else beNat s

/-- le_n(v) (R7): the n-byte little-endian string of v mod 2^(8n). -/
def leBytes : Nat → Nat → Bytes
  | 0, _ => []
  | n + 1, v => BitVec.ofNat 8 v :: leBytes n (v / 256)

/-- be_n(v) (R7): the n-byte big-endian string of v mod 2^(8n). -/
def beBytes (n v : Nat) : Bytes := (leBytes n v).reverse

/-- be_n(v) (R7) of a signed integer. -/
def beBytesInt (n : Nat) (v : Int) : Bytes := beBytes n (v % 2 ^ (8 * n)).toNat

/-- The byte string 0x00 x n. -/
def zeroBytes (n : Nat) : Bytes := List.replicate n 0

/-- The four bytes of a word, most significant first: be_4 (R7). -/
def wordBytes (w : Word) : Bytes := beBytes 4 w.toNat

/-- The word BE(s) of a four-byte string. -/
def wordOf (s : Bytes) : Word := BitVec.ofNat 32 (beNat s)

/-- The 128-bit integer BE(s) of a 16-byte string (R160). -/
def blockOf (s : Bytes) : Block := BitVec.ofNat 128 (beNat s)

/-- The 16-byte string be_16 of a 128-bit integer (R160). -/
def blockBytes (b : Block) : Bytes := beBytes 16 b.toNat

/-- Byte `i` of a row of `n` bytes written as one number, first byte most significant. -/
def rowByte (n : Nat) (row i : Nat) : Byte := BitVec.ofNat 8 (row >>> (8 * (n - 1 - i)))

/-- Word `i` of a row of `n` 32-bit words written as one number, first word most significant. -/
def rowWord (n : Nat) (row i : Nat) : Word := BitVec.ofNat 32 (row >>> (32 * (n - 1 - i)))

/-- arg[i] (R8): the latched ARG register, an unsigned number used as is (R92). -/
def State.argN (s : State) (i : Fin 8) : Nat := s.argl[i].toNat

/-- `if not c then raise Error(code)` (R8). -/
def require (c : Bool) (code : ErrCode) : Except ErrCode Unit :=
  if c then .ok () else .error code

/-- check_range(a, n) (R72), the sum computed without wrap-around. -/
def checkRange (s : State) (a n : Nat) : Except ErrCode Unit :=
  require (a + n ≤ s.params.dmemBytes) .addr

/-- The length check of the big-integer commands: `if L = 0 or L > LMAX then raise Error(LEN)` (R185, R222, R237). -/
def checkLen (s : State) (l : Nat) : Except ErrCode Unit :=
  require (l != 0 && l ≤ s.params.lmax) .len

/-- v mod m for a signed v, in [0, m) for m > 0 (R7). -/
def zmod (m : Nat) (v : Int) : Nat := (v % m).toNat

end Sys2Proof.Machine
end

