-- ==== Sys2Proof/Machine/Ber.lean ====
section
/-! DEFINITION. The BER unit (47_ber.md): the header decoder of R231 over the window [BER_POS, BER_END) and the commands
BER_TAG, BER_SEQ, BER_INT. The decoder takes the window's bytes, so it can read nothing outside it (R230). -/

namespace Sys2Proof.Machine

/-- A decoded header (R231): the identifier octet (which holds cls and cons), the tag number, the content length (0 when
indefinite), the indefinite flag, and the DMEM address of the first content byte. -/
structure BerHeader where
  b0 : Byte
  num : Nat
  len : Nat
  indef : Bool
  cpos : Nat
  deriving DecidableEq, Repr

/-- cls = b0[7:6] (R231). -/
def BerHeader.cls (h : BerHeader) : BitVec 2 := h.b0.extractLsb' 6 2

/-- cons = b0[5] (R231). -/
def BerHeader.cons (h : BerHeader) : Bool := h.b0.getLsbD 5

/-- The repeat loop of the high-tag-number form (R231), from the number so far: the tag number and the bytes after it. -/
def berHighTag : Bytes → Nat → Option (Nat × Bytes)
  | [], _ => none
  | c :: rest, num =>
    let n := num * 128 + (c.extractLsb' 0 7).toNat
    if 2 ^ 32 - 1 < n then none
    else if c.msb then berHighTag rest n
    else some (n, rest)

/-- The tag number of the identifier octet `b0` and the bytes after it (R231). -/
def berTagNumber (b0 : Byte) (rest : Bytes) : Option (Nat × Bytes) :=
  if b0.extractLsb' 0 5 = 0x1F then berHighTag rest 0 else some ((b0.extractLsb' 0 5).toNat, rest)

/-- The length octets (R231): the length, the indefinite flag, and the bytes after them. -/
def berLength : Bytes → Option (Nat × Bool × Bytes)
  | [] => none
  | l0 :: rest =>
    if l0 < 0x80 then some (l0.toNat, false, rest)
    else if l0 = 0x80 then some (0, true, rest)
    else if l0 = 0xFF then none
    else
      let k := (l0.extractLsb' 0 7).toNat
      if 4 < k then none
      else if rest.length < k then none
      else some (beNat (rest.take k), false, rest.drop k)

/-- ber_hdr (R231) on the window's bytes, the window ending at DMEM address `last`; none is FAIL. -/
def berHeader (window : Bytes) (last : Nat) : Option BerHeader :=
  match window with
  | [] => none
  | b0 :: rest =>
    match berTagNumber b0 rest with
    | none => none
    | some (num, rest) =>
      match berLength rest with
      | none => none
      | some (len, indef, rest) =>
        if !indef && rest.length < len then none
        else some { b0 := b0, num := num, len := len, indef := indef, cpos := last - rest.length }

/-- ber_window (R232). -/
def berWindow (s : State) : Except ErrCode Unit :=
  require (s.berEnd.toNat ≤ s.params.dmemBytes && s.berPos.toNat ≤ s.berEnd.toNat) .addr

/-- The bytes of the window (R230). -/
def State.berBytes (s : State) : Bytes := s.memRead s.berPos.toNat (s.berEnd.toNat - s.berPos.toNat)

/-- ber_hdr(BER_POS, BER_END) (R235 to R237). -/
def State.berHeader (s : State) : Option BerHeader := Sys2Proof.Machine.berHeader s.berBytes s.berEnd.toNat

/-- set_res (R233). -/
def berRes (h : BerHeader) : ResRegs :=
  { res0 := h.b0.zeroExtend 32 + (h.cls.zeroExtend 32 <<< 8) + ((BitVec.ofBool h.cons).zeroExtend 32 <<< 10)
      + ((BitVec.ofBool h.indef).zeroExtend 32 <<< 11)
    res1 := BitVec.ofNat 32 h.num
    res2 := BitVec.ofNat 32 h.len
    res3 := BitVec.ofNat 32 h.cpos }

/-- A header accepted and consumed: set_res and BER_POS <- cpos (R235, R236). -/
def berConsume (h : BerHeader) : Effect :=
  { result := true, res := some (berRes h), berPos := some (BitVec.ofNat 32 h.cpos) }

/-- BER_TAG (R235). -/
def ruleBerTag (s : State) : Except ErrCode Effect := do
  berWindow s
  match s.berHeader with
  | none => .ok Effect.negative
  | some h => .ok (berConsume h)

/-- BER_SEQ (R236). -/
def ruleBerSeq (s : State) : Except ErrCode Effect := do
  berWindow s
  match s.berHeader with
  | none => .ok Effect.negative
  | some h => if h.b0 = 0x30 then .ok (berConsume h) else .ok Effect.negative

/-- Whether BER_INT accepts a header for an L-byte destination (R237). -/
def berIntAccepts (h : BerHeader) (l : Nat) : Bool := h.b0 == 0x02 && !h.indef && h.len ≤ l

/-- The writes of a successful BER_INT (R237): the value at arg[0], the header, the whole TLV consumed. -/
def berIntEffect (s : State) (h : BerHeader) (l : Nat) : Effect :=
  { result := true
    dmem := some (s.argN 0, beBytesInt l (signedBe (s.memRead h.cpos h.len)))
    res := some (berRes h)
    berPos := some (BitVec.ofNat 32 (h.cpos + h.len)) }

/-- BER_INT (R237). -/
def ruleBerInt (s : State) : Except ErrCode Effect := do
  let l := s.argN 1
  checkLen s l
  checkRange s (s.argN 0) l
  berWindow s
  match s.berHeader with
  | none => .ok Effect.negative
  | some h => if berIntAccepts h l then .ok (berIntEffect s h l) else .ok Effect.negative

/-- The meaning of BER_TAG. -/
def execBerTag (s : State) : Host.Outcome State Fault Refusal := runRule ruleBerTag s

/-- The meaning of BER_SEQ. -/
def execBerSeq (s : State) : Host.Outcome State Fault Refusal := runRule ruleBerSeq s

/-- The meaning of BER_INT. -/
def execBerInt (s : State) : Host.Outcome State Fault Refusal := runRule ruleBerInt s

end Sys2Proof.Machine
end

