-- ==== Sys2Proof/Machine/Blowfish.lean ====
section
/-! DEFINITION. The Blowfish unit (42_blowfish.md): the algorithm of R140 to R143 and the commands BF_KEY, BF_ENC,
BF_DEC. -/

namespace Sys2Proof.Machine

/-- S[k][j] for a byte j (R141). -/
def bfSbox (u : BfUnit) (k : Fin 4) (j : Byte) : Word := (u.s.get k).get j.toFin

/-- The round function F (R141). -/
def bfF (u : BfUnit) (x : Word) : Word :=
  ((bfSbox u 0 (x.extractLsb' 24 8) + bfSbox u 1 (x.extractLsb' 16 8)) ^^^ bfSbox u 2 (x.extractLsb' 8 8))
    + bfSbox u 3 (x.extractLsb' 0 8)

/-- One round on (L, R) with the P word `k`: L <- L XOR k; R <- R XOR F(L); swap (R142). -/
def bfRound (u : BfUnit) (lr : Word × Word) (k : Word) : Word × Word :=
  let l := lr.1 ^^^ k
  (lr.2 ^^^ bfF u l, l)

/-- The sixteen rounds with the P words `ks`, the swap undone, and the last two XORs: R with `kr`, L with `kl` (R142). -/
def bfCrypt (u : BfUnit) (ks : List Word) (kr kl : Word) (l r : Word) : Word × Word :=
  let lr := ks.foldl (bfRound u) (l, r)
  (lr.2 ^^^ kl, lr.1 ^^^ kr)

/-- BF_EncryptWords (R142): P[0] to P[15], then P[16] into R and P[17] into L. -/
def bfEncryptWords (u : BfUnit) (l r : Word) : Word × Word :=
  bfCrypt u (u.p.toList.take 16) u.p[16] u.p[17] l r

/-- BF_DecryptWords (R142): P[17] down to P[2], then P[1] into R and P[0] into L. -/
def bfDecryptWords (u : BfUnit) (l r : Word) : Word × Word :=
  bfCrypt u (u.p.toList.drop 2).reverse u.p[1] u.p[0] l r

/-- The key word XORed into P[i] (R143): key bytes 4i to 4i + 3 of the key used cyclically, first byte most
significant. -/
def bfKeyWord (key : Bytes) (i : Nat) : Word :=
  wordOf ((List.range' (4 * i) 4).map (fun j => key.getD (j % key.length) 0))

/-- The unit before the encryptions of R143: BF_INIT with the key XORed into P. -/
def bfSeed (key : Bytes) : BfUnit :=
  { p := Vector.ofFn (fun i : Fin 18 => bfInitP.get i ^^^ bfKeyWord key i.val), s := bfInitS, kv := true }

/-- The schedule under way: the unit as updated so far, and (L, R). -/
structure BfFill where
  unit : BfUnit
  l : Word
  r : Word

/-- One step of the first loop of R143: encrypt (L, R), store it in P[i] and P[i + 1]. -/
def bfFillP (f : BfFill) (i : Nat) : BfFill :=
  let lr := bfEncryptWords f.unit f.l f.r
  { unit := { f.unit with p := (f.unit.p.setIfInBounds i lr.1).setIfInBounds (i + 1) lr.2 }, l := lr.1, r := lr.2 }

/-- One step of the second loop of R143: encrypt (L, R), store it in S[k][j] and S[k][j + 1]. -/
def bfFillS (k : Fin 4) (f : BfFill) (j : Nat) : BfFill :=
  let lr := bfEncryptWords f.unit f.l f.r
  let row := ((f.unit.s.get k).setIfInBounds j lr.1).setIfInBounds (j + 1) lr.2
  { unit := { f.unit with s := f.unit.s.set k row }, l := lr.1, r := lr.2 }

/-- The even indices 0, 2, .., 2(n - 1). -/
def evens (n : Nat) : List Nat := (List.range n).map (2 * ·)

/-- BF_Schedule (R143). -/
def bfSchedule (key : Bytes) : BfUnit :=
  let f := (evens 9).foldl bfFillP { unit := bfSeed key, l := 0, r := 0 }
  ((List.finRange 4).foldl (fun f k => (evens 128).foldl (bfFillS k) f) f).unit

/-- BF_KEY (R145). -/
def ruleBfKey (s : State) : Except ErrCode Effect := do
  let n := s.argN 1
  require (1 ≤ n && n ≤ 56) .keyLen
  checkRange s (s.argN 0) n
  .ok { result := true, bf := some (bfSchedule (s.memRead (s.argN 0) n)) }

/-- An 8-byte block taken through a word transform (R140, R146). -/
def bfBlock (f : Word → Word → Word × Word) (b : Bytes) : Bytes :=
  let lr := f (wordOf (b.take 4)) (wordOf (b.drop 4))
  wordBytes lr.1 ++ wordBytes lr.2

/-- The common form of BF_ENC and BF_DEC (R146, R147). -/
def ruleBfBlock (f : BfUnit → Word → Word → Word × Word) (s : State) : Except ErrCode Effect := do
  checkRange s (s.argN 0) 8
  checkRange s (s.argN 1) 8
  require s.bf.kv .noKey
  .ok { result := true, dmem := some (s.argN 1, bfBlock (f s.bf) (s.memRead (s.argN 0) 8)) }

/-- BF_ENC (R146). -/
def ruleBfEnc (s : State) : Except ErrCode Effect := ruleBfBlock bfEncryptWords s

/-- BF_DEC (R147). -/
def ruleBfDec (s : State) : Except ErrCode Effect := ruleBfBlock bfDecryptWords s

/-- The meaning of BF_KEY. -/
def execBfKey (s : State) : Host.Outcome State Fault Refusal := runRule ruleBfKey s

/-- The meaning of BF_ENC. -/
def execBfEnc (s : State) : Host.Outcome State Fault Refusal := runRule ruleBfEnc s

/-- The meaning of BF_DEC. -/
def execBfDec (s : State) : Host.Outcome State Fault Refusal := runRule ruleBfDec s

end Sys2Proof.Machine
end

