-- ==== Sys2Proof/Machine/Control.lean ====
section
/-! DEFINITION. The control commands NOP and ZEROIZE (40_control.md). -/

namespace Sys2Proof.Machine

/-- NOP (R110). -/
def ruleNop (_ : State) : Except ErrCode Effect := .ok { result := true }

/-- ZEROIZE (R111): every DMEM byte, every key store, H, X and RES0 to RES3. -/
def ruleZeroize (s : State) : Except ErrCode Effect :=
  .ok { result := true
        dmem := some (0, zeroBytes s.params.dmemBytes)
        aes := some AesUnit.zero
        bf := some BfUnit.zero
        gh := some GhUnit.zero
        res := some ResRegs.zero }

/-- The meaning of NOP. -/
def execNop (s : State) : Host.Outcome State Fault Refusal := runRule ruleNop s

/-- The meaning of ZEROIZE. -/
def execZeroize (s : State) : Host.Outcome State Fault Refusal := runRule ruleZeroize s

end Sys2Proof.Machine
end

