-- ==== Sys2Proof/Machine/Aes.lean ====
section
/-! DEFINITION. The AES unit (41_aes.md): the algorithm of R120 to R125 and the commands AES_KEY, AES_ENC, AES_DEC. -/

namespace Sys2Proof.Machine

/-- The S-box table of 41_aes.md section 4: row h holds Sbox(0xh0) to Sbox(0xhf) as one 16-byte number. -/
def sboxRows : List Nat :=
  [ 0x637c777bf26b6fc53001672bfed7ab76,
    0xca82c97dfa5947f0add4a2af9ca472c0,
    0xb7fd9326363ff7cc34a5e5f171d83115,
    0x04c723c31896059a071280e2eb27b275,
    0x09832c1a1b6e5aa0523bd6b329e32f84,
    0x53d100ed20fcb15b6acbbe394a4c58cf,
    0xd0efaafb434d338545f9027f503c9fa8,
    0x51a3408f929d38f5bcb6da2110fff3d2,
    0xcd0c13ec5f974417c4a77e3d645d1973,
    0x60814fdc222a908846eeb814de5e0bdb,
    0xe0323a0a4906245cc2d3ac629195e479,
    0xe7c8376d8dd54ea96c56f4ea657aae08,
    0xba78252e1ca6b4c6e8dd741f4bbd8b8a,
    0x703eb5664803f60e613557b986c11d9e,
    0xe1f8981169d98e949b1e87e9ce5528df,
    0x8ca1890dbfe6426841992d0fb054bb16 ]

/-- The inverse S-box table of 41_aes.md section 4, laid out as sboxRows. -/
def invSboxRows : List Nat :=
  [ 0x52096ad53036a538bf40a39e81f3d7fb,
    0x7ce339829b2fff87348e4344c4dee9cb,
    0x547b9432a6c2233dee4c950b42fac34e,
    0x082ea16628d924b2765ba2496d8bd125,
    0x72f8f66486689816d4a45ccc5d65b692,
    0x6c704850fdedb9da5e154657a78d9d84,
    0x90d8ab008cbcd30af7e45805b8b34506,
    0xd02c1e8fca3f0f02c1afbd0301138a6b,
    0x3a9111414f67dcea97f2cfcef0b4e673,
    0x96ac7422e7ad3585e2f937e81c75df6e,
    0x47f11a711d29c5896fb7620eaa18be1b,
    0xfc563e4bc6d279209adbc0fe78cd5af4,
    0x1fdda8338807c731b11210592780ec5f,
    0x60517fa919b54a0d2de57a9f93c99cef,
    0xa0e03b4dae2af5b0c8ebbb3c83539961,
    0x172b047eba77d626e169146355210c7d ]

/-- The entry of a 256-byte table of sixteen 16-byte rows. -/
def tableByte (rows : List Nat) (a : Byte) : Byte := rowByte 16 (rows.getD (a.toNat / 16) 0) (a.toNat % 16)

/-- Sbox (R122), by the table; Obligations.SboxFollowsItsDefinition says it is the one R122 defines. -/
def sbox (a : Byte) : Byte := tableByte sboxRows a

/-- InvSbox (R122), by the table. -/
def invSbox (a : Byte) : Byte := tableByte invSboxRows a

/-- Multiplication by x in GF(2^8) (R121). -/
def xtime (b : Byte) : Byte := (b <<< 1) ^^^ (if b.msb then 0x1B else 0x00)

/-- The product of the low `n` bits of `a` with `b` in GF(2^8): a XOR of xtime powers of `b` (R121). -/
def gfMulBits : Nat → Byte → Byte → Byte
  | 0, _, _ => 0
  | n + 1, a, b => (if a.getLsbD 0 then b else 0) ^^^ gfMulBits n (a >>> 1) (xtime b)

/-- Multiplication in GF(2^8) (R121). -/
def gfMul8 (a b : Byte) : Byte := gfMulBits 8 a b

/-- A column of the state: s[0][c] to s[3][c] (R120). -/
structure AesColumn where
  r0 : Byte
  r1 : Byte
  r2 : Byte
  r3 : Byte
  deriving DecidableEq, Repr

/-- The 4 x 4 state as its columns 0 to 3 (R120). -/
structure AesState where
  c0 : AesColumn
  c1 : AesColumn
  c2 : AesColumn
  c3 : AesColumn
  deriving DecidableEq, Repr

/-- The four bytes of column `c` of a 16-byte block: s[r][c] = in[r + 4c] (R120). -/
def aesColumnOf (b : Bytes) (c : Nat) : AesColumn :=
  { r0 := b.getD (4 * c) 0, r1 := b.getD (4 * c + 1) 0, r2 := b.getD (4 * c + 2) 0, r3 := b.getD (4 * c + 3) 0 }

/-- state(in) (R120). -/
def aesStateOf (b : Bytes) : AesState :=
  { c0 := aesColumnOf b 0, c1 := aesColumnOf b 1, c2 := aesColumnOf b 2, c3 := aesColumnOf b 3 }

/-- The bytes of a column, row 0 first. -/
def aesColumnBytes (k : AesColumn) : Bytes := [k.r0, k.r1, k.r2, k.r3]

/-- out(s): out[r + 4c] = s[r][c] (R120). -/
def aesStateBytes (s : AesState) : Bytes :=
  aesColumnBytes s.c0 ++ aesColumnBytes s.c1 ++ aesColumnBytes s.c2 ++ aesColumnBytes s.c3

/-- A byte function applied to every byte of a column. -/
def aesMapColumn (f : Byte → Byte) (k : AesColumn) : AesColumn :=
  { r0 := f k.r0, r1 := f k.r1, r2 := f k.r2, r3 := f k.r3 }

/-- A column function applied to every column of the state. -/
def aesMapColumns (f : AesColumn → AesColumn) (s : AesState) : AesState :=
  { c0 := f s.c0, c1 := f s.c1, c2 := f s.c2, c3 := f s.c3 }

/-- SubBytes (R123). -/
def subBytes (s : AesState) : AesState := aesMapColumns (aesMapColumn sbox) s

/-- InvSubBytes (R123). -/
def invSubBytes (s : AesState) : AesState := aesMapColumns (aesMapColumn invSbox) s

/-- ShiftRows (R123): s'[r][c] = s[r][(c + r) mod 4]. -/
def shiftRows (s : AesState) : AesState :=
  { c0 := { r0 := s.c0.r0, r1 := s.c1.r1, r2 := s.c2.r2, r3 := s.c3.r3 }
    c1 := { r0 := s.c1.r0, r1 := s.c2.r1, r2 := s.c3.r2, r3 := s.c0.r3 }
    c2 := { r0 := s.c2.r0, r1 := s.c3.r1, r2 := s.c0.r2, r3 := s.c1.r3 }
    c3 := { r0 := s.c3.r0, r1 := s.c0.r1, r2 := s.c1.r2, r3 := s.c2.r3 } }

/-- InvShiftRows (R123): s'[r][c] = s[r][(c - r) mod 4]. -/
def invShiftRows (s : AesState) : AesState :=
  { c0 := { r0 := s.c0.r0, r1 := s.c3.r1, r2 := s.c2.r2, r3 := s.c1.r3 }
    c1 := { r0 := s.c1.r0, r1 := s.c0.r1, r2 := s.c3.r2, r3 := s.c2.r3 }
    c2 := { r0 := s.c2.r0, r1 := s.c1.r1, r2 := s.c0.r2, r3 := s.c3.r3 }
    c3 := { r0 := s.c3.r0, r1 := s.c2.r1, r2 := s.c1.r2, r3 := s.c0.r3 } }

/-- One output byte of MixColumns or its inverse: the row (k0 k1 k2 k3) of the matrix of R123 times a column. -/
def mixRow (k0 k1 k2 k3 : Byte) (a : AesColumn) : Byte :=
  gfMul8 k0 a.r0 ^^^ gfMul8 k1 a.r1 ^^^ gfMul8 k2 a.r2 ^^^ gfMul8 k3 a.r3

/-- MixColumns on one column (R123). -/
def mixColumn (a : AesColumn) : AesColumn :=
  { r0 := mixRow 0x02 0x03 0x01 0x01 a
    r1 := mixRow 0x01 0x02 0x03 0x01 a
    r2 := mixRow 0x01 0x01 0x02 0x03 a
    r3 := mixRow 0x03 0x01 0x01 0x02 a }

/-- InvMixColumns on one column (R123). -/
def invMixColumn (a : AesColumn) : AesColumn :=
  { r0 := mixRow 0x0e 0x0b 0x0d 0x09 a
    r1 := mixRow 0x09 0x0e 0x0b 0x0d a
    r2 := mixRow 0x0d 0x09 0x0e 0x0b a
    r3 := mixRow 0x0b 0x0d 0x09 0x0e a }

/-- MixColumns (R123). -/
def mixColumns (s : AesState) : AesState := aesMapColumns mixColumn s

/-- InvMixColumns (R123). -/
def invMixColumns (s : AesState) : AesState := aesMapColumns invMixColumn s

/-- RK[i] (R31); 0 above RK[59], which only a round count outside R31 could ask for (log entry 15). -/
def aesRoundKey (u : AesUnit) (i : Nat) : Word := u.rk.toList.getD i 0

/-- A column XOR a word: row r with byte r of the word, byte 0 the most significant (R120, R123). -/
def addKeyColumn (k : AesColumn) (w : Word) : AesColumn :=
  { r0 := k.r0 ^^^ w.extractLsb' 24 8
    r1 := k.r1 ^^^ w.extractLsb' 16 8
    r2 := k.r2 ^^^ w.extractLsb' 8 8
    r3 := k.r3 ^^^ w.extractLsb' 0 8 }

/-- AddRoundKey(round) (R123). -/
def addRoundKey (u : AesUnit) (round : Nat) (s : AesState) : AesState :=
  { c0 := addKeyColumn s.c0 (aesRoundKey u (4 * round))
    c1 := addKeyColumn s.c1 (aesRoundKey u (4 * round + 1))
    c2 := addKeyColumn s.c2 (aesRoundKey u (4 * round + 2))
    c3 := addKeyColumn s.c3 (aesRoundKey u (4 * round + 3)) }

/-- One full round of the cipher (R125). -/
def aesEncRound (u : AesUnit) (s : AesState) (round : Nat) : AesState :=
  addRoundKey u round (mixColumns (shiftRows (subBytes s)))

/-- One full round of the inverse cipher (R125). -/
def aesDecRound (u : AesUnit) (s : AesState) (round : Nat) : AesState :=
  invMixColumns (addRoundKey u round (invSubBytes (invShiftRows s)))

/-- The cipher on the state (R125): round 0, rounds 1 to Nr - 1, and the last round without MixColumns. -/
def aesCipher (u : AesUnit) (s : AesState) : AesState :=
  addRoundKey u u.nr
    (shiftRows (subBytes ((List.range' 1 (u.nr - 1)).foldl (aesEncRound u) (addRoundKey u 0 s))))

/-- The inverse cipher on the state (R125): round Nr, rounds Nr - 1 down to 1, and the last round. -/
def aesInvCipher (u : AesUnit) (s : AesState) : AesState :=
  addRoundKey u 0
    (invSubBytes (invShiftRows ((List.range' 1 (u.nr - 1)).reverse.foldl (aesDecRound u) (addRoundKey u u.nr s))))

/-- AES_Encrypt (R125). -/
def aesEncrypt (u : AesUnit) (b : Bytes) : Bytes := aesStateBytes (aesCipher u (aesStateOf b))

/-- AES_Decrypt (R125). -/
def aesDecrypt (u : AesUnit) (b : Bytes) : Bytes := aesStateBytes (aesInvCipher u (aesStateOf b))

/-- RotWord (R124). -/
def rotWord (t : Word) : Word := t.rotateLeft 8

/-- SubWord (R124). -/
def subWord (t : Word) : Word :=
  sbox (t.extractLsb' 24 8) ++ sbox (t.extractLsb' 16 8) ++ sbox (t.extractLsb' 8 8) ++ sbox (t.extractLsb' 0 8)

/-- Rcon[1..10] (R124). -/
def rcon (j : Nat) : Byte := [0x01, 0x02, 0x04, 0x08, 0x10, 0x20, 0x40, 0x80, 0x1b, 0x36].getD (j - 1) 0

/-- The word XORed into w[i - Nk] to give w[i], from t = w[i - 1] (R124). -/
def expandTemp (nk i : Nat) (t : Word) : Word :=
  if i % nk = 0 then subWord (rotWord t) ^^^ ((rcon (i / nk)).zeroExtend 32 <<< 24)
  else if nk = 8 ∧ i % nk = 4 then subWord t
  else t

/-- One step of KeyExpansion (R124), on the words made so far, the newest first. -/
def expandStep (nk : Nat) (made : List Word) (i : Nat) : List Word :=
  (made.getD (nk - 1) 0 ^^^ expandTemp nk i (made.headD 0)) :: made

/-- The key words w[0..Nk-1] (R120, R124). -/
def keyWords (key : Bytes) (nk : Nat) : List Word :=
  (List.range nk).map (fun i => wordOf ((key.drop (4 * i)).take 4))

/-- KeyExpansion (R124): the 4 * (Nr + 1) words of the schedule, Nr = Nk + 6. -/
def keyExpansion (key : Bytes) (nk : Nat) : List Word :=
  ((List.range' nk (4 * (nk + 7) - nk)).foldl (expandStep nk) (keyWords key nk).reverse).reverse

/-- The AES unit holding the expansion of a key of Nk words (R126): words above the schedule are 0. -/
def aesLoad (key : Bytes) (nk : Nat) : AesUnit :=
  let w := keyExpansion key nk
  { rk := Vector.ofFn (fun i : Fin 60 => w.getD i.val 0), nk := nk, nr := nk + 6, kv := true }

/-- Whether AES_KEY accepts a key of `n` bytes (R126). -/
def aesKeyLenOk (s : State) (n : Nat) : Bool := n == 16 || n == 32 || (n == 24 && s.params.aes192)

/-- AES_KEY (R126). -/
def ruleAesKey (s : State) : Except ErrCode Effect := do
  let n := s.argN 1
  require (aesKeyLenOk s n) .keyLen
  checkRange s (s.argN 0) n
  .ok { result := true, aes := some (aesLoad (s.memRead (s.argN 0) n) (n / 4)) }

/-- The common form of AES_ENC and AES_DEC (R127, R128). -/
def ruleAesBlock (f : AesUnit → Bytes → Bytes) (s : State) : Except ErrCode Effect := do
  checkRange s (s.argN 0) 16
  checkRange s (s.argN 1) 16
  require s.aes.kv .noKey
  .ok { result := true, dmem := some (s.argN 1, f s.aes (s.memRead (s.argN 0) 16)) }

/-- AES_ENC (R127). -/
def ruleAesEnc (s : State) : Except ErrCode Effect := ruleAesBlock aesEncrypt s

/-- AES_DEC (R128). -/
def ruleAesDec (s : State) : Except ErrCode Effect := ruleAesBlock aesDecrypt s

/-- The meaning of AES_KEY. -/
def execAesKey (s : State) : Host.Outcome State Fault Refusal := runRule ruleAesKey s

/-- The meaning of AES_ENC. -/
def execAesEnc (s : State) : Host.Outcome State Fault Refusal := runRule ruleAesEnc s

/-- The meaning of AES_DEC. -/
def execAesDec (s : State) : Host.Outcome State Fault Refusal := runRule ruleAesDec s

end Sys2Proof.Machine
end

