-- ==== Sys2Proof/Machine/Ghash.lean ====
section
/-! DEFINITION. The GH unit (43_ghash.md): the GF(2^128) multiplier of R161, the GHASH fold of R162, the comparator, and
the eight GH commands. -/

namespace Sys2Proof.Machine

/-- The reduction constant of GF_Mult (R161). -/
def gfReduction : Block := 0xE1000000000000000000000000000000

/-- v times x in GF(2^128) (R161). -/
def gfShift (v : Block) : Block := if v.getLsbD 0 then (v >>> 1) ^^^ gfReduction else v >>> 1

/-- The loop of GF_Mult (R161) with `n` bits of x still to use: bit n - 1 of x is x[127 - i] for i = 128 - n. -/
def gfMultLoop : Nat → Block → Block → Block → Block
  | 0, _, _, z => z
  | n + 1, x, v, z => gfMultLoop n x (gfShift v) (if x.getLsbD n then z ^^^ v else z)

/-- GF_Mult (R161), on the integers BE of its 16-byte strings. -/
def gfMult (x y : Block) : Block := gfMultLoop 128 x y 0

/-- The bytes data[16i .. 16i+16) as an integer (R167). -/
def ghashBlock (data : Bytes) (i : Nat) : Block := blockOf ((data.drop (16 * i)).take 16)

/-- The GHASH fold of `n` blocks into X under H (R162). -/
def ghashFold (h x : Block) (data : Bytes) (n : Nat) : Block :=
  (List.range n).foldl (fun x i => gfMult (x ^^^ ghashBlock data i) h) x

/-- The comparator's d (R171): the OR of all byte differences. -/
def byteDifference (a b : Bytes) : Byte := (List.zipWith (· ^^^ ·) a b).foldl (· ||| ·) 0

/-- GH_SETH (R163). -/
def ruleGhSetH (s : State) : Except ErrCode Effect := do
  checkRange s (s.argN 0) 16
  .ok { result := true, gh := some { s.gh with h := blockOf (s.memRead (s.argN 0) 16), hv := true } }

/-- GH_DERIVEH (R164). -/
def ruleGhDeriveH (s : State) : Except ErrCode Effect := do
  require s.aes.kv .noKey
  .ok { result := true, gh := some { s.gh with h := blockOf (aesEncrypt s.aes (zeroBytes 16)), hv := true } }

/-- GH_CLEAR (R165). -/
def ruleGhClear (s : State) : Except ErrCode Effect :=
  .ok { result := true, gh := some { s.gh with x := 0 } }

/-- GH_LOADX (R166). -/
def ruleGhLoadX (s : State) : Except ErrCode Effect := do
  checkRange s (s.argN 0) 16
  .ok { result := true, gh := some { s.gh with x := blockOf (s.memRead (s.argN 0) 16) } }

/-- GH_UPDATE (R167). -/
def ruleGhUpdate (s : State) : Except ErrCode Effect := do
  let n := s.argN 1
  checkRange s (s.argN 0) (16 * n)
  require s.gh.hv .noKey
  .ok { result := true
        gh := some { s.gh with x := ghashFold s.gh.h s.gh.x (s.memRead (s.argN 0) (16 * n)) n } }

/-- GH_STOREX (R169). -/
def ruleGhStoreX (s : State) : Except ErrCode Effect := do
  checkRange s (s.argN 0) 16
  .ok { result := true, dmem := some (s.argN 0, blockBytes s.gh.x) }

/-- GF_MUL (R170). -/
def ruleGfMul (s : State) : Except ErrCode Effect := do
  checkRange s (s.argN 0) 16
  checkRange s (s.argN 1) 16
  checkRange s (s.argN 2) 16
  let a := blockOf (s.memRead (s.argN 0) 16)
  let b := blockOf (s.memRead (s.argN 1) 16)
  .ok { result := true, dmem := some (s.argN 2, blockBytes (gfMult a b)) }

/-- CT_COMPARE (R171). -/
def ruleCtCompare (s : State) : Except ErrCode Effect := do
  let n := s.argN 2
  checkRange s (s.argN 0) n
  checkRange s (s.argN 1) n
  .ok { result := byteDifference (s.memRead (s.argN 0) n) (s.memRead (s.argN 1) n) == 0 }

/-- The meaning of GH_SETH. -/
def execGhSetH (s : State) : Host.Outcome State Fault Refusal := runRule ruleGhSetH s

/-- The meaning of GH_DERIVEH. -/
def execGhDeriveH (s : State) : Host.Outcome State Fault Refusal := runRule ruleGhDeriveH s

/-- The meaning of GH_CLEAR. -/
def execGhClear (s : State) : Host.Outcome State Fault Refusal := runRule ruleGhClear s

/-- The meaning of GH_LOADX. -/
def execGhLoadX (s : State) : Host.Outcome State Fault Refusal := runRule ruleGhLoadX s

/-- The meaning of GH_UPDATE. -/
def execGhUpdate (s : State) : Host.Outcome State Fault Refusal := runRule ruleGhUpdate s

/-- The meaning of GH_STOREX. -/
def execGhStoreX (s : State) : Host.Outcome State Fault Refusal := runRule ruleGhStoreX s

/-- The meaning of GF_MUL. -/
def execGfMul (s : State) : Host.Outcome State Fault Refusal := runRule ruleGfMul s

/-- The meaning of CT_COMPARE. -/
def execCtCompare (s : State) : Host.Outcome State Fault Refusal := runRule ruleCtCompare s

end Sys2Proof.Machine
end

