-- ==== Sys2Proof/Machine/ModExp.lean ====
section
/-! DEFINITION. The ME unit (46_modexp.md): modular exponentiation and the command MODEXP. R221 fixes the value and leaves
the algorithm open; this one squares and multiplies, and Obligations.ModexpGivesPower says it gives the value. -/

namespace Sys2Proof.Machine

/-- b^e mod m for an exponent of at most `bits` bits, least significant bit first (R221, log entry 16). -/
def modPow (m : Nat) : Nat → Nat → Nat → Nat
  | 0, _, _ => 1 % m
  | bits + 1, b, e =>
    let r := modPow m bits (b * b % m) (e / 2)
    if e % 2 = 1 then b * r % m else r

/-- MODEXP (R222). -/
def ruleModexp (s : State) : Except ErrCode Effect := do
  let l := s.argN 4
  checkLen s l
  checkRange s (s.argN 0) l
  checkRange s (s.argN 1) l
  checkRange s (s.argN 2) l
  checkRange s (s.argN 3) l
  let b := beNat (s.memRead (s.argN 0) l)
  let e := beNat (s.memRead (s.argN 1) l)
  let m := beNat (s.memRead (s.argN 2) l)
  require (m != 0) .modulus
  .ok { result := true, dmem := some (s.argN 3, beBytes l (modPow m (8 * l) b e)) }

/-- The meaning of MODEXP. -/
def execModexp (s : State) : Host.Outcome State Fault Refusal := runRule ruleModexp s

end Sys2Proof.Machine
end

