-- ==== Sys2Proof/Machine/Montgomery.lean ====
section
/-! DEFINITION. The MX unit (45_montgomery.md): scalar and u fixing, the ladder of R204, and the commands X25519 and
X448. -/

namespace Sys2Proof.Machine

/-- A byte string with its first and last bytes changed (R201, R202). -/
def mapEnds (first last : Byte → Byte) (s : Bytes) : Bytes :=
  (s.modify 0 first).modify (s.length - 1) last

/-- FixScalar of X25519 on the 32 scalar bytes (R201). -/
def fixScalar25519 (kb : Bytes) : Bytes := mapEnds (· &&& 0xF8) (fun b => (b &&& 0x7F) ||| 0x40) kb

/-- FixScalar of X448 on the 56 scalar bytes (R201). -/
def fixScalar448 (kb : Bytes) : Bytes := mapEnds (· &&& 0xFC) (· ||| 0x80) kb

/-- FixUCord of X25519 on the 32 u bytes (R202); X448 changes none (C1). -/
def fixU25519 (ub : Bytes) : Bytes := mapEnds id (· &&& 0x7F) ub

/-- p of X25519 (R203). -/
def p25519 : Nat := 2 ^ 255 - 19

/-- p of X448 (R203). -/
def p448 : Nat := 2 ^ 448 - 2 ^ 224 - 1

/-- The variables of the ladder (R204). -/
structure Ladder where
  x2 : Nat
  z2 : Nat
  x3 : Nat
  z3 : Nat
  swap : Bool
  deriving DecidableEq, Repr

/-- cswap of both coordinate pairs (R204). -/
def Ladder.cswap (c : Bool) (v : Ladder) : Ladder :=
  if c then { v with x2 := v.x3, x3 := v.x2, z2 := v.z3, z3 := v.z2 } else v

/-- The differential addition and doubling of one iteration (R204), after its swaps. -/
def Ladder.addDouble (p a24 x1 : Nat) (v : Ladder) : Ladder :=
  let a := zmod p (v.x2 + v.z2)
  let aa := zmod p (a * a)
  let b := zmod p ((v.x2 : Int) - v.z2)
  let bb := zmod p (b * b)
  let e := zmod p ((aa : Int) - bb)
  let c := zmod p (v.x3 + v.z3)
  let d := zmod p ((v.x3 : Int) - v.z3)
  let da := zmod p (d * a)
  let cb := zmod p (c * b)
  { x3 := zmod p ((da + cb) ^ 2)
    z3 := zmod p (x1 * ((da : Int) - cb) ^ 2)
    x2 := zmod p (aa * bb)
    z2 := zmod p (e * (aa + a24 * e))
    swap := v.swap }

/-- One iteration for bit `t` of the scalar (R204). -/
def Ladder.step (p a24 x1 k : Nat) (v : Ladder) (t : Nat) : Ladder :=
  let kt := k.testBit t
  { (Ladder.cswap (v.swap ^^ kt) v).addDouble p a24 x1 with swap := kt }

/-- The ladder (R204): bits - 1 down to 0, the final swap, and x2 * z2^(p - 2). -/
def ladder (k u p a24 bits : Nat) : Nat :=
  let v := (List.range bits).reverse.foldl (Ladder.step p a24 u k)
    { x2 := 1, z2 := 0, x3 := u, z3 := 1, swap := false }
  let w := Ladder.cswap v.swap v
  w.x2 * modPow p bits w.z2 (p - 2) % p

/-- X25519 as a function of the scalar and u bytes (R205). -/
def x25519 (kb ub : Bytes) : Bytes :=
  leBytes 32 (ladder (leNat (fixScalar25519 kb)) (leNat (fixU25519 ub) % p25519) p25519 121665 255)

/-- X448 as a function of the scalar and u bytes (R206). -/
def x448 (kb ub : Bytes) : Bytes :=
  leBytes 56 (ladder (leNat (fixScalar448 kb)) (leNat ub % p448) p448 39081 448)

/-- The common form of X25519 and X448 on `n`-byte operands (R205, R206). -/
def ruleMx (n : Nat) (f : Bytes → Bytes → Bytes) (s : State) : Except ErrCode Effect := do
  checkRange s (s.argN 0) n
  checkRange s (s.argN 1) n
  checkRange s (s.argN 2) n
  .ok { result := true, dmem := some (s.argN 2, f (s.memRead (s.argN 0) n) (s.memRead (s.argN 1) n)) }

/-- X25519 (R205). -/
def ruleX25519 (s : State) : Except ErrCode Effect := ruleMx 32 x25519 s

/-- X448 (R206). -/
def ruleX448 (s : State) : Except ErrCode Effect := ruleMx 56 x448 s

/-- The meaning of X25519. -/
def execX25519 (s : State) : Host.Outcome State Fault Refusal := runRule ruleX25519 s

/-- The meaning of X448. -/
def execX448 (s : State) : Host.Outcome State Fault Refusal := runRule ruleX448 s

end Sys2Proof.Machine
end

