-- ==== Sys2Proof/Machine/Weierstrass.lean ====
section
/-! DEFINITION. The EC unit (44_weierstrass.md): operands and group law of R180 to R185 and the commands EC_ADD, EC_DBL,
EC_CHECK. -/

namespace Sys2Proof.Machine

/-- The extended Euclidean loop on remainders r0, r1 with cofactors t0, t1 (r = t * d modulo m), for as many divisions
as `fuel` allows. -/
def euclid : Nat → Nat → Nat → Int → Int → Nat × Int
  | 0, r0, _, t0, _ => (r0, t0)
  | fuel + 1, r0, r1, t0, t1 =>
    if r1 = 0 then (r0, t0) else euclid fuel r1 (r0 % r1) t1 (t0 - (r0 / r1 : Nat) * t1)

/-- inv_m(d) (R9): the inverse of d modulo m, or Error(NOINV) when gcd(d, m) != 1. The remainders fall strictly, so
d mod m + 1 divisions are enough (log entry 16). -/
def invMod (m d : Nat) : Except ErrCode Nat :=
  let g := euclid (d % m + 1) m (d % m) 0 1
  if g.1 = 1 then .ok (zmod m g.2) else .error .noInv

/-- The curve y^2 = x^3 + a x + b over Z_p (R180). -/
structure Curve where
  p : Nat
  a : Nat
  b : Nat
  deriving DecidableEq, Repr

/-- A decoded point (R181): the point at infinity or an affine pair. -/
inductive Point where
  | infinity
  | affine (x y : Nat)
  deriving DecidableEq, Repr

/-- The curve predicate (R182). -/
def onCurve (c : Curve) (x y : Nat) : Bool :=
  zmod c.p ((y : Int) ^ 2 - ((x : Int) ^ 3 + c.a * x + c.b)) == 0

/-- `P != O and not on_curve(P)` is false (R186, R187): O, or a point on the curve. -/
def Point.valid (c : Curve) : Point → Bool
  | .infinity => true
  | .affine x y => onCurve c x y

/-- x3 and y3 from the slope `lam`, the first point and the second x (R183; R184 with x2 = x1). -/
def chord (c : Curve) (lam x1 y1 x2 : Nat) : Point :=
  let x3 := zmod c.p ((lam : Int) ^ 2 - x1 - x2)
  .affine x3 (zmod c.p ((lam : Int) * ((x1 : Int) - x3) - y1))

/-- ec_dbl (R184). -/
def ecDbl (c : Curve) : Point → Except ErrCode Point
  | .infinity => .ok .infinity
  | .affine x1 y1 =>
    if y1 = 0 then .ok .infinity
    else do
      let inv ← invMod c.p (zmod c.p (2 * y1))
      .ok (chord c (zmod c.p ((3 * (x1 : Int) ^ 2 + c.a) * inv)) x1 y1 x1)

/-- ec_add (R183). -/
def ecAdd (c : Curve) : Point → Point → Except ErrCode Point
  | .infinity, q => .ok q
  | .affine x1 y1, .infinity => .ok (.affine x1 y1)
  | .affine x1 y1, .affine x2 y2 =>
    if x1 = x2 then
      if zmod c.p (y1 + y2) = 0 then .ok .infinity else ecDbl c (.affine x1 y1)
    else do
      let inv ← invMod c.p (zmod c.p ((x2 : Int) - x1))
      .ok (chord c (zmod c.p (((y2 : Int) - y1) * inv)) x1 y1 x2)

/-- The X coordinate of a point string (R181). -/
def pointX (l : Nat) (s : Bytes) : Nat := beNat ((s.drop 1).take l)

/-- The Y coordinate of a point string (R181). -/
def pointY (l : Nat) (s : Bytes) : Nat := beNat (s.drop (1 + l))

/-- decode (R181), on 1 + 2L bytes. -/
def decodePoint (c : Curve) (l : Nat) (s : Bytes) : Except ErrCode Point :=
  if s.headD 0 = 0x00 then .ok .infinity
  else do
    require (s.headD 0 == 0x04) .point
    require (pointX l s < c.p && pointY l s < c.p) .range
    .ok (.affine (pointX l s) (pointY l s))

/-- enc (R181). -/
def encodePoint (l : Nat) : Point → Bytes
  | .infinity => 0x00 :: zeroBytes (2 * l)
  | .affine x y => 0x04 :: (beBytes l x ++ beBytes l y)

/-- L (R180). -/
def State.ecLen (s : State) : Nat := s.argN 1

/-- The length of a point string (R181). -/
def State.ecPointLen (s : State) : Nat := 1 + 2 * s.ecLen

/-- ec_params (R185). -/
def ecParams (s : State) : Except ErrCode Unit := do
  checkLen s s.ecLen
  checkRange s (s.argN 0) (3 * s.ecLen)

/-- ec_curve (R185). -/
def ecCurve (s : State) : Except ErrCode Curve := do
  let prm := s.memRead (s.argN 0) (3 * s.ecLen)
  let c : Curve :=
    { p := beNat (prm.take s.ecLen)
      a := beNat ((prm.drop s.ecLen).take s.ecLen)
      b := beNat (prm.drop (2 * s.ecLen)) }
  require (3 ≤ c.p) .modulus
  require (c.a < c.p && c.b < c.p) .range
  .ok c

/-- The point string at the address in arg[i]. -/
def State.pointBytes (s : State) (i : Fin 8) : Bytes := s.memRead (s.argN i) s.ecPointLen

/-- The V = 1 checks: `if V = 1 and P != O and not on_curve(P) then raise Error(POINT)` (R186, R187). -/
def validate (v : Bool) (c : Curve) (p : Point) : Except ErrCode Unit := require (!v || p.valid c) .point

/-- EC_ADD (R186). -/
def ruleEcAdd (v : Bool) (s : State) : Except ErrCode Effect := do
  ecParams s
  checkRange s (s.argN 2) s.ecPointLen
  checkRange s (s.argN 3) s.ecPointLen
  checkRange s (s.argN 4) s.ecPointLen
  let c ← ecCurve s
  let p ← decodePoint c s.ecLen (s.pointBytes 2)
  let q ← decodePoint c s.ecLen (s.pointBytes 3)
  validate v c p
  validate v c q
  let r ← ecAdd c p q
  validate v c r
  .ok { result := true, dmem := some (s.argN 4, encodePoint s.ecLen r) }

/-- EC_DBL (R187). -/
def ruleEcDbl (v : Bool) (s : State) : Except ErrCode Effect := do
  ecParams s
  checkRange s (s.argN 2) s.ecPointLen
  checkRange s (s.argN 4) s.ecPointLen
  let c ← ecCurve s
  let p ← decodePoint c s.ecLen (s.pointBytes 2)
  validate v c p
  let r ← ecDbl c p
  validate v c r
  .ok { result := true, dmem := some (s.argN 4, encodePoint s.ecLen r) }

/-- The Boolean of EC_CHECK on a point string (R188). -/
def ecCheckResult (c : Curve) (l : Nat) (s : Bytes) : Bool :=
  s.headD 0 == 0x04 && pointX l s < c.p && pointY l s < c.p && onCurve c (pointX l s) (pointY l s)

/-- EC_CHECK (R188). -/
def ruleEcCheck (s : State) : Except ErrCode Effect := do
  ecParams s
  checkRange s (s.argN 2) s.ecPointLen
  let c ← ecCurve s
  .ok { result := ecCheckResult c s.ecLen (s.pointBytes 2) }

/-- The meaning of EC_ADD. -/
def execEcAdd (v : Bool) (s : State) : Host.Outcome State Fault Refusal := runRule (ruleEcAdd v) s

/-- The meaning of EC_DBL. -/
def execEcDbl (v : Bool) (s : State) : Host.Outcome State Fault Refusal := runRule (ruleEcDbl v) s

/-- The meaning of EC_CHECK. -/
def execEcCheck (s : State) : Host.Outcome State Fault Refusal := runRule ruleEcCheck s

end Sys2Proof.Machine
end

