-- ==== Sys2Proof/Machine/Rules.lean ====
section
/-! DEFINITION. The rule each command runs, by name, for what needs a command's outcome before it completes: the output
range of a command a soft reset abandons (70_reset_and_hazards.md R282). exec (Machine/Dispatch.lean) completes the same
rules. -/

namespace Sys2Proof.Machine

/-- The rule of a command (files 40 to 47). -/
def ruleOf : Instr → State → Except ErrCode Effect
  | .nop => ruleNop
  | .zeroize => ruleZeroize
  | .aesKey => ruleAesKey
  | .aesEnc => ruleAesEnc
  | .aesDec => ruleAesDec
  | .bfKey => ruleBfKey
  | .bfEnc => ruleBfEnc
  | .bfDec => ruleBfDec
  | .ghSetH => ruleGhSetH
  | .ghDeriveH => ruleGhDeriveH
  | .ghClear => ruleGhClear
  | .ghLoadX => ruleGhLoadX
  | .ghUpdate => ruleGhUpdate
  | .ghStoreX => ruleGhStoreX
  | .gfMul => ruleGfMul
  | .ctCompare => ruleCtCompare
  | .ecAdd v => ruleEcAdd v
  | .ecDbl v => ruleEcDbl v
  | .ecCheck => ruleEcCheck
  | .x25519 => ruleX25519
  | .x448 => ruleX448
  | .modexp => ruleModexp
  | .berTag => ruleBerTag
  | .berSeq => ruleBerSeq
  | .berInt => ruleBerInt

/-- The rule a CMD word runs: its command's, or Error(BADCMD) for a reserved word (R97). -/
def ruleOfWord (w : Word) (s : State) : Except ErrCode Effect :=
  match decode w with
  | .ok i => ruleOf i s
  | .error _ => .error .badCmd

end Sys2Proof.Machine
end

