-- ==== Sys2Proof/Machine/Dispatch.lean ====
section
/-! DEFINITION. The dispatch from a command to its meaning, one arm per constructor of Instr. -/

namespace Sys2Proof.Machine

def exec (i : Instr) (s : State) : Host.Outcome State Fault Refusal :=
  match i with
  | .nop => Sys2Proof.Machine.execNop s
  | .zeroize => Sys2Proof.Machine.execZeroize s
  | .aesKey => Sys2Proof.Machine.execAesKey s
  | .aesEnc => Sys2Proof.Machine.execAesEnc s
  | .aesDec => Sys2Proof.Machine.execAesDec s
  | .bfKey => Sys2Proof.Machine.execBfKey s
  | .bfEnc => Sys2Proof.Machine.execBfEnc s
  | .bfDec => Sys2Proof.Machine.execBfDec s
  | .ghSetH => Sys2Proof.Machine.execGhSetH s
  | .ghDeriveH => Sys2Proof.Machine.execGhDeriveH s
  | .ghClear => Sys2Proof.Machine.execGhClear s
  | .ghLoadX => Sys2Proof.Machine.execGhLoadX s
  | .ghUpdate => Sys2Proof.Machine.execGhUpdate s
  | .ghStoreX => Sys2Proof.Machine.execGhStoreX s
  | .gfMul => Sys2Proof.Machine.execGfMul s
  | .ctCompare => Sys2Proof.Machine.execCtCompare s
  | .ecAdd v => Sys2Proof.Machine.execEcAdd v s
  | .ecDbl v => Sys2Proof.Machine.execEcDbl v s
  | .ecCheck => Sys2Proof.Machine.execEcCheck s
  | .x25519 => Sys2Proof.Machine.execX25519 s
  | .x448 => Sys2Proof.Machine.execX448 s
  | .modexp => Sys2Proof.Machine.execModexp s
  | .berTag => Sys2Proof.Machine.execBerTag s
  | .berSeq => Sys2Proof.Machine.execBerSeq s
  | .berInt => Sys2Proof.Machine.execBerInt s

end Sys2Proof.Machine
end

