-- ==== Sys2Proof/Machine/Flags.lean ====
section
/-! DEFINITION. The flags: the STATUS word and every other CSR word that is computed from state (10_state.md R22 to R28),
the W1C bits, and the interrupt level (60_exceptions.md R262). -/

namespace Sys2Proof.Machine

/-- STATUS.BUSY (R25, R36). -/
def State.busy (s : State) : Bool := s.phase == .running

/-- STATUS.ERR, equal to (ERRCODE != 0) at every instant (R25). -/
def State.err (s : State) : Bool := s.errcode.isSome

/-- The number of an error code (R251). -/
def ErrCode.code : ErrCode → BitVec 8
  | .badCmd => 0x01
  | .keyLen => 0x02
  | .noKey => 0x03
  | .addr => 0x04
  | .len => 0x05
  | .modulus => 0x06
  | .range => 0x07
  | .point => 0x08
  | .noInv => 0x09

/-- A one-bit field at bit `i` of a CSR. -/
def flagAt (b : Bool) (i : Nat) : Word := if b then 1 <<< i else 0

/-- The STATUS word (R25); bits 31:9 read 0. -/
def statusWord (s : State) : Word :=
  flagAt s.busy 0 ||| flagAt s.done 1 ||| flagAt s.err 2 ||| flagAt s.result 3 ||| flagAt s.aes.kv 4
    ||| flagAt s.bf.kv 5 ||| flagAt s.gh.hv 6 ||| flagAt s.overrun 7 ||| flagAt s.accerr 8

/-- A host write of STATUS clears each of DONE, OVERRUN and ACCERR whose written bit is 1, and nothing else (R25). -/
def State.clearStatus (s : State) (v : Word) : State :=
  { s with
    done := s.done && !v.getLsbD 1
    overrun := s.overrun && !v.getLsbD 7
    accerr := s.accerr && !v.getLsbD 8 }

/-- The ERRCODE word (R28); bits 31:8 read 0. -/
def errcodeWord (s : State) : Word :=
  match s.errcode with
  | some c => c.code.zeroExtend 32
  | none => 0

/-- The CTRL word (R24): IRQ_EN in bit 0; SOFT_RESET and bits 31:2 read 0. -/
def ctrlWord (s : State) : Word := flagAt s.irqEn 0

/-- ID (R22), the bytes "PD06". -/
def idWord : Word := 0x50443036

/-- VERSION (R22). -/
def versionWord : Word := 0x00010007

/-- CONFIG (R23). -/
def configWord (p : Params) : Word :=
  BitVec.ofNat 32 (p.dmemBytes / 256) ||| (BitVec.ofNat 32 p.lmax <<< 16) ||| flagAt p.aes192 28

/-- The IRQ output, a level (R37, R262). -/
def State.irq (s : State) : Bool := s.irqEn && s.done

end Sys2Proof.Machine
end

