-- ==== Sys2Proof/Machine/HostPort.lean ====
section
/-! DEFINITION. The host port: the two windows (20_memory.md R60 to R66), what a read and a write of each CSR does
(10_state.md R21 to R30), soft reset (70_reset_and_hazards.md R281, R282) and power-on reset (R280). -/

namespace Sys2Proof.Machine

/-- The registers of the map of R21. -/
inductive Csr where
  | id
  | version
  | config
  | ctrl
  | status
  | errcode
  | cmd
  | arg (i : Fin 8)
  | res (i : Fin 4)
  | berPos
  | berEnd
  | reserved
  deriving DecidableEq, Repr

/-- The register at a byte offset of the register window (R21). -/
def csrAt (off : Nat) : Csr :=
  if off = 0x000 then .id
  else if off = 0x004 then .version
  else if off = 0x008 then .config
  else if off = 0x00C then .ctrl
  else if off = 0x010 then .status
  else if off = 0x014 then .errcode
  else if off = 0x018 then .cmd
  else if 0x020 ≤ off ∧ off < 0x040 then .arg (Fin.ofNat 8 ((off - 0x020) / 4))
  else if 0x040 ≤ off ∧ off < 0x050 then .res (Fin.ofNat 4 ((off - 0x040) / 4))
  else if off = 0x050 then .berPos
  else if off = 0x054 then .berEnd
  else .reserved

/-- RES`i` (R29). -/
def ResRegs.get (r : ResRegs) : Fin 4 → Word
  | 0 => r.res0
  | 1 => r.res1
  | 2 => r.res2
  | 3 => r.res3

/-- What a host read of a register returns; no read has a side effect (R21, R64). -/
def csrRead (s : State) : Csr → Word
  | .id => idWord
  | .version => versionWord
  | .config => configWord s.params
  | .ctrl => ctrlWord s
  | .status => statusWord s
  | .errcode => errcodeWord s
  | .cmd => s.cmdl
  | .arg i => s.arg[i]
  | .res i => s.res.get i
  | .berPos => s.berPos
  | .berEnd => s.berEnd
  | .reserved => 0

/-- The output range of the running command: the one it would MemWrite if it completed now (R282). DEDUCED (log entry 5,
unsafe): a command that would complete with an error or a negative result writes nothing, so it has none. -/
def State.pendingOutput (s : State) : Option (Nat × Nat) :=
  match s.phase with
  | .idle => none
  | .running =>
    match ruleOfWord s.cmdl s with
    | .ok e => e.dmem.map (fun w => (w.1, w.2.length))
    | .error _ => none

/-- The bytes an abandoned command leaves in its output range (R282): a draw per byte. -/
def State.abandonedBytes (s : State) (a n : Nat) : Bytes := (List.range' a n).map (Config.abandonedByte s.draws)

/-- DMEM after a soft reset: unchanged but for the output range of an abandoned command (R281, R282). -/
def State.dmemAfterSoftReset (s : State) : Memory :=
  match s.pendingOutput with
  | some (a, n) => s.dmem.write a (s.abandonedBytes a n)
  | none => s.dmem

/-- Soft reset (R281): every register, store and flag at its reset value, PHASE <- IDLE, DMEM kept. -/
def State.softReset (s : State) : State :=
  { State.powerOn s.params with
    dmem := s.dmemAfterSoftReset
    epoch := s.epoch
    draws := s.draws + 1
    inbox := s.inbox
    replies := s.replies }

/-- Power-on reset as an event (R274, R280): every DMEM byte a fresh draw (log entry 14). -/
def State.powerCycle (s : State) : State :=
  { State.powerOn s.params with
    epoch := s.draws
    draws := s.draws + 1
    inbox := s.inbox
    replies := s.replies }

/-- A host write of CTRL (R24): bit 1 performs the soft reset, else bit 0 is IRQ_EN. -/
def State.writeCtrl (s : State) (v : Word) : State :=
  if v.getLsbD 1 then s.softReset else { s with irqEn := v.getLsbD 0 }

/-- A host write of CMD (R26): an issue when idle, dropped with OVERRUN <- 1 when busy. -/
def State.writeCmd (s : State) (v : Word) : State :=
  if s.busy then { s with overrun := true } else s.issue v

/-- A host write of BER_POS (R30): dropped with ACCERR <- 1 when busy (R66). -/
def State.writeBerPos (s : State) (v : Word) : State :=
  if s.busy then { s with accerr := true } else { s with berPos := v }

/-- A host write of BER_END (R30): dropped with ACCERR <- 1 when busy (R66). -/
def State.writeBerEnd (s : State) (v : Word) : State :=
  if s.busy then { s with accerr := true } else { s with berEnd := v }

/-- What a host write of a register does (R21, R24 to R30). -/
def csrWrite (s : State) (c : Csr) (v : Word) : State :=
  match c with
  | .ctrl => s.writeCtrl v
  | .status => s.clearStatus v
  | .cmd => s.writeCmd v
  | .arg i => { s with arg := s.arg.set i v }
  | .berPos => s.writeBerPos v
  | .berEnd => s.writeBerEnd v
  | .id | .version | .config | .errcode | .res _ | .reserved => s

/-- Where a host address falls (R60), with its offset in the window. -/
inductive Window where
  | csr (off : Nat)
  | dmem (off : Nat)
  | outside
  deriving DecidableEq, Repr

/-- The window a host address falls in (R60). -/
def windowOf (p : Params) (addr : Nat) : Window :=
  if p.baseCsr ≤ addr ∧ addr < p.baseCsr + 4096 then .csr (addr - p.baseCsr)
  else if p.baseDmem ≤ addr ∧ addr < p.baseDmem + p.dmemBytes then .dmem (addr - p.baseDmem)
  else .outside

/-- Register accesses are 32 bits wide at multiples of 4 (R61). -/
def csrAccessOk (off size : Nat) : Bool := size == 4 && off % 4 == 0

/-- DMEM accesses are 8, 16 or 32 bits wide, naturally aligned, and wholly inside (R62). -/
def dmemAccessOk (p : Params) (off size : Nat) : Bool :=
  (size == 1 || size == 2 || size == 4) && off % size == 0 && off + size ≤ p.dmemBytes

/-- A host read returning `v` to the host. -/
def State.reply (s : State) (v : Word) : State := { s with replies := s.replies ++ [v] }

/-- The value of an idle DMEM read of `size` bytes, little-endian (R63), zero-extended (log entry 18). -/
def dmemValue (s : State) (off size : Nat) : Word := BitVec.ofNat 32 (leNat (s.memRead off size))

/-- The value of a busy DMEM read of `size` bytes (R66): a draw of that width. -/
def busyValue (s : State) (size : Nat) : Word :=
  BitVec.ofNat 32 ((Config.busyReadValue s.draws).toNat % 2 ^ (8 * size))

/-- A host read of the DMEM window (R65, R66). -/
def dmemHostRead (s : State) (off size : Nat) : State :=
  if s.busy then { s with accerr := true, draws := s.draws + 1 }.reply (busyValue s size)
  else s.reply (dmemValue s off size)

/-- A host write of the DMEM window (R63, R65, R66). -/
def dmemHostWrite (s : State) (off size : Nat) (v : Word) : State :=
  if s.busy then { s with accerr := true }
  else { s with dmem := s.dmem.write off (leBytes size v.toNat) }

/-- A host read at a host address. -/
def hostRead (s : State) (addr size : Nat) : Host.Outcome State Fault Refusal :=
  match windowOf s.params addr with
  | .csr off => if csrAccessOk off size then .next (s.reply (csrRead s (csrAt off))) else .refused .csrProtocol
  | .dmem off => if dmemAccessOk s.params off size then .next (dmemHostRead s off size) else .refused .dmemProtocol
  | .outside => .refused .outsideWindows

/-- A host write at a host address. -/
def hostWrite (s : State) (addr size : Nat) (v : Word) : Host.Outcome State Fault Refusal :=
  match windowOf s.params addr with
  | .csr off => if csrAccessOk off size then .next (csrWrite s (csrAt off) v) else .refused .csrProtocol
  | .dmem off => if dmemAccessOk s.params off size then .next (dmemHostWrite s off size v) else .refused .dmemProtocol
  | .outside => .refused .outsideWindows

/-- One host input performed (R80: each complete before the next begins). -/
def hostInput (s : State) : HostInput → Host.Outcome State Fault Refusal
  | .read addr size => hostRead s addr size
  | .write addr size v => hostWrite s addr size v
  | .powerOn => .next s.powerCycle

end Sys2Proof.Machine
end

