-- ==== Sys2Proof/Machine/Engine.lean ====
section
/-! DEFINITION. Who moves next, and the engine's completion step (60_exceptions.md R253). -/

namespace Sys2Proof.Machine

/-- Who moves next: the engine, the host with its next input, or nobody. -/
inductive Turn where
  | engine
  | host (input : HostInput) (rest : List HostEvent)
  | idle
  deriving DecidableEq, Repr

/-- Who moves next (log entry 6). While a command runs, the host moves only with an input marked as early; else the
engine completes. While none runs, the next input moves; with none to come, the CORE does nothing (R274). -/
def turn (s : State) : Turn :=
  match s.phase, s.inbox with
  | .running, [] => .engine
  | .running, e :: rest => if e.early then .host e.input rest else .engine
  | .idle, [] => .idle
  | .idle, e :: rest => .host e.input rest

/-- The completion step (R253): the command CMDL decodes to, or Error(BADCMD) for a reserved word (R97). -/
def engineStep (s : State) : Host.Outcome State Fault Refusal :=
  match decode s.cmdl with
  | .ok i => exec i s
  | .error _ => .next (s.completeError .badCmd)

/-- One step of the CORE. -/
def stepBody (s : State) : Host.Outcome State Fault Refusal :=
  match turn s with
  | .engine => engineStep s
  | .host input rest => hostInput { s with inbox := rest } input
  | .idle => .next s

/-- An inbox whose first input waits for the command to complete. -/
def deferFirst : List HostEvent → List HostEvent
  | [] => []
  | e :: rest => { e with early := false } :: rest

/-- The state in which `w` has just been issued from `s` and the engine moves next. -/
def placeCommand (s : State) (w : Word) : State :=
  { s.issue w with inbox := deferFirst s.inbox }

end Sys2Proof.Machine
end

