-- ==== Sys2Proof/Machine/Step.lean ====
section
/-! DEFINITION. The step of the CORE and the placing of a command word for the next step. -/

namespace Sys2Proof.Machine

/-- One step: the engine's completion, one host input, or nothing (Machine/Engine.lean). -/
def step (s : State) : Host.Outcome State Fault Refusal := stepBody s

/-- `s` with the word `w` issued as its next command, the arguments latched from ARG0 to ARG7 (R26), and the engine to
move next (log entry 8). A command is one 32-bit CMD write (R99): of `w` only the low `nbits` bits are read. -/
def State.withFetchWord (s : State) (nbits w : Nat) : State :=
  placeCommand s (BitVec.ofNat 32 (w % 2 ^ nbits))

end Sys2Proof.Machine
end

