-- ==== Sys2Proof/Safety.lean ====
section
/-! DEFINITION. What counts as a good state of the CORE and what may differ between two states, in the words claims are
stated in. -/

namespace Sys2Proof.Machine

/-- The AES unit is empty, or holds the expansion of a key of a length AES_KEY accepts (R31). -/
def AesUnit.legal (p : Params) (u : AesUnit) : Prop :=
  u = AesUnit.zero ∨
    ∃ key nk, key.length = 4 * nk ∧ (nk = 4 ∨ nk = 8 ∨ (nk = 6 ∧ p.aes192 = true)) ∧ u = aesLoad key nk

/-- The Blowfish unit is empty, or holds the schedule of a key of 1 to 56 bytes (R33). -/
def BfUnit.legal (u : BfUnit) : Prop :=
  u = BfUnit.zero ∨ ∃ key, 1 ≤ key.length ∧ key.length ≤ 56 ∧ u = bfSchedule key

/-- The invariant of the CORE: what 10_state.md says of its state at every instant. -/
structure State.Inv (s : State) : Prop where
  /-- DMEM cells are in canonical form. -/
  dmemWf : s.dmem.wf
  /-- DMEM has DMEM_BYTES bytes (R40). -/
  dmemBelow : s.dmem.below s.params.dmemBytes
  /-- AES_KV = 1 exactly when RK holds the expansion of a key (R31). -/
  aesLegal : s.aes.legal s.params
  /-- BF_KV = 1 exactly when P and S hold the schedule of a key (R33). -/
  bfLegal : s.bf.legal
  /-- No subkey is held while H_V = 0 (R35, R42, R111). -/
  subkey : s.gh.hv = false → s.gh.h = 0
  /-- RESULT is always 0 when ERRCODE != 0 (R25). -/
  errorResult : s.errcode ≠ none → s.result = false
  /-- DONE, RESULT and ERRCODE are 0 from issue to completion (R26). -/
  whileRunning : s.phase = .running → s.done = false ∧ s.result = false ∧ s.errcode = none
  /-- RES0 bits 31:12 are 0 (R29). -/
  res0High : s.res.res0 >>> 12 = 0

/-- Two states that differ at most in what no host may read: RK, the Blowfish P-array and S-boxes, and H (R32). -/
def State.agreeButKeys (s t : State) : Prop :=
  ∃ rk p sb h, t = { s with
    aes := { s.aes with rk := rk }
    bf := { s.bf with p := p, s := sb }
    gh := { s.gh with h := h } }

/-- The byte address `x` lies outside the `n` bytes at `a`. -/
abbrev Outside (x a n : Nat) : Prop := x < a ∨ a + n ≤ x

/-- Every DMEM byte reads the same. -/
def SameDmem (s t : State) : Prop := ∀ x, t.readByte x = s.readByte x

/-- Every DMEM byte outside the `n` bytes at `a` reads the same. -/
def SameDmemOutside (s t : State) (a n : Nat) : Prop := ∀ x, Outside x a n → t.readByte x = s.readByte x

/-- `a .. a + n` lies inside DMEM: check_range(a, n) holds (R72). -/
abbrev State.inRange (s : State) (a n : Nat) : Prop := a + n ≤ s.params.dmemBytes

/-- `s` after a command that ended with the Boolean `b` and wrote nothing else (R253, case Ok). -/
def State.ended (s : State) (b : Bool) : State :=
  { s with result := b, errcode := none, done := true, phase := .idle }

/-- `s` after a command that ended with Error(c) (R253, case Error; R254). -/
def State.failed (s : State) (c : ErrCode) : State :=
  { s with result := false, errcode := some c, done := true, phase := .idle }

/-- The command `i` run in `s` ends with Error(c) and changes nothing else (R254). -/
def Fails (i : Instr) (s : State) (c : ErrCode) : Prop := exec i s = .next (s.failed c)

/-- The command `i` run in `s` ends in success, stores exactly the bytes `bs` at `a`, and changes nothing else (R71,
R253). -/
def Stores (i : Instr) (s : State) (a : Nat) (bs : Bytes) : Prop :=
  ∃ t, exec i s = .next t ∧ t = { s.ended true with dmem := t.dmem } ∧ t.memRead a bs.length = bs ∧
    SameDmemOutside s t a bs.length

/-- The step that moves in `s` is a reset: a soft reset by a write of CTRL with bit 1 = 1 (R281), or a power-on reset
(R280). -/
def State.resetMoves (s : State) : Prop :=
  (∃ rest, turn s = .host .powerOn rest) ∨
    ∃ addr size v rest off, turn s = .host (.write addr size v) rest ∧ windowOf s.params addr = .csr off ∧
      csrAt off = .ctrl ∧ v.getLsbD 1 = true

/-- The step that moves in `s` is the completion of one of the commands `cs`. -/
def State.completes (s : State) (cs : List Instr) : Prop :=
  turn s = .engine ∧ ∃ i ∈ cs, decode s.cmdl = .ok i

/-- The curve parameters a command reads (R180): three L-byte integers one after the other at arg[0]. -/
def State.curve (s : State) : Curve :=
  { p := beNat (s.memRead (s.argN 0) s.ecLen)
    a := beNat (s.memRead (s.argN 0 + s.ecLen) s.ecLen)
    b := beNat (s.memRead (s.argN 0 + 2 * s.ecLen) s.ecLen) }

/-- The point operand at the address in arg[i], as decode reads it (R181). -/
def State.point (s : State) (i : Fin 8) : Except ErrCode Point := decodePoint s.curve s.ecLen (s.pointBytes i)

/-- L is legal (R180, R220). -/
abbrev State.legalLen (s : State) (l : Nat) : Prop := 1 ≤ l ∧ l ≤ s.params.lmax

/-- The BER window is legal (R232). -/
abbrev State.legalWindow (s : State) : Prop := s.berEnd.toNat ≤ s.params.dmemBytes ∧ s.berPos.toNat ≤ s.berEnd.toNat

/-- The point has coordinates in [0, p) (R182). -/
def Point.reduced (c : Curve) : Point → Prop
  | .infinity => True
  | .affine x y => x < c.p ∧ y < c.p

/-- The number a list of base-128 digits writes, the first the most significant (R231). -/
def base128 (ds : List (BitVec 7)) : Nat := ds.foldl (fun n d => n * 128 + d.toNat) 0

/-- The octets of the digits `ds` that another digit follows: bit 7 is 1 (R231). -/
def moreDigits (ds : List (BitVec 7)) : Bytes := ds.map (fun d => 1#1 ++ d)

/-- `octets` are tag octets with the identifier octet `b0` for the tag number `num` (R231): the low-tag-number form, or
the high-tag-number form with any digits, minimal or not. -/
def TagWritten (octets : Bytes) (b0 : Byte) (num : Nat) : Prop :=
  (b0.toNat % 32 ≠ 0x1F ∧ octets = [b0] ∧ num = b0.toNat % 32) ∨
    (b0.toNat % 32 = 0x1F ∧ ∃ ds d, octets = b0 :: (moreDigits ds ++ [0#1 ++ d]) ∧ num = base128 (ds ++ [d]))

/-- `octets` are length octets for the content length `len`, or for the indefinite form (R231): the short form, 80, or
the long form with one to four length bytes, minimal or not. -/
def LengthWritten (octets : Bytes) (len : Nat) (indef : Bool) : Prop :=
  (len < 0x80 ∧ indef = false ∧ octets = [BitVec.ofNat 8 len]) ∨
    (len = 0 ∧ indef = true ∧ octets = [0x80]) ∨
    (indef = false ∧ ∃ bs : Bytes, 1 ≤ bs.length ∧ bs.length ≤ 4 ∧ octets = BitVec.ofNat 8 (0x80 + bs.length) :: bs ∧
      len = beNat bs)

/-- The operation codes of the map of R93. -/
def mapOpcodes : List Nat :=
  [0x00, 0x01, 0x10, 0x11, 0x12, 0x18, 0x19, 0x1A, 0x20, 0x21, 0x22, 0x23, 0x24, 0x25, 0x26, 0x27, 0x30, 0x31, 0x32,
    0x38, 0x39, 0x40, 0x48, 0x49, 0x4A]

/-- The commands whose rule has a negative result (R250). -/
def canBeNegative : Instr → Bool
  | .ctCompare | .ecCheck | .berTag | .berSeq | .berInt => true
  | .nop | .zeroize | .aesKey | .aesEnc | .aesDec | .bfKey | .bfEnc | .bfDec => false
  | .ghSetH | .ghDeriveH | .ghClear | .ghLoadX | .ghUpdate | .ghStoreX | .gfMul => false
  | .ecAdd _ | .ecDbl _ | .x25519 | .x448 | .modexp => false

end Sys2Proof.Machine
end

