-- ==== Sys2Proof/Certificates/Slice0/Obligations.lean ====
section
/-! DEFINITION. The statements for the provers. Each docstring names the rules of spec/ it formalises. Words such as
Fails, Stores, State.ended and SameDmem are defined in Safety.lean; a value drawn by the hardware never decides a
statement. -/

open Sys2Proof Sys2Proof.Machine

/-! ### Encoding -/

/-- R90, R93, R96: the decoder and the encoder are inverse, both ways. -/
def Obligations.DecodeInvertsEncode : Prop :=
  (∀ i, decode (encode i) = .ok i) ∧ ∀ w i, decode w = .ok i → encode i = w

/-- R96: the command is the row the word selects; at most one row is selected; a word no row selects is reserved. -/
def Obligations.DecodingIsTheOpcodeTable : Prop :=
  ∀ w : Word,
    (∀ r ∈ opcodeRows, w &&& r.mask = r.pattern → decode w = .ok (r.command (w.getLsbD 8))) ∧
    (opcodeRows.filter (fun r => w &&& r.mask == r.pattern)).length ≤ 1 ∧
    ((∀ r ∈ opcodeRows, w &&& r.mask ≠ r.pattern) → ∃ e, decode w = .error e)

/-- R97: a reserved word issues like any other and completes with Error(BADCMD), no other state changed. -/
def Obligations.ReservedWordsFailWithBadcmd : Prop :=
  ∀ s : State,
    (s.phase = .idle → ∀ w, csrWrite s .cmd w = s.issue w) ∧
    (turn s = .engine →
      (s.cmdl >>> 9 ≠ 0 ∨ s.cmdl.toNat % 256 ∉ mapOpcodes ∨
        (s.cmdl.getLsbD 8 = true ∧ s.cmdl.toNat % 256 ≠ 0x30 ∧ s.cmdl.toNat % 256 ≠ 0x31)) →
      step s = .next (s.failed .badCmd) ∧ csrRead (s.failed .badCmd) .errcode = 0x01)

/-- R93, R95: every word of the opcode map, written out. -/
def Obligations.SpecWordsDecode : Prop :=
  (decode 0x00000000 = .ok .nop ∧ decode 0x00000001 = .ok .zeroize) ∧
  (decode 0x00000010 = .ok .aesKey ∧ decode 0x00000011 = .ok .aesEnc ∧ decode 0x00000012 = .ok .aesDec) ∧
  (decode 0x00000018 = .ok .bfKey ∧ decode 0x00000019 = .ok .bfEnc ∧ decode 0x0000001A = .ok .bfDec) ∧
  (decode 0x00000020 = .ok .ghSetH ∧ decode 0x00000021 = .ok .ghDeriveH ∧ decode 0x00000022 = .ok .ghClear ∧
    decode 0x00000023 = .ok .ghLoadX ∧ decode 0x00000024 = .ok .ghUpdate ∧ decode 0x00000025 = .ok .ghStoreX ∧
    decode 0x00000026 = .ok .gfMul ∧ decode 0x00000027 = .ok .ctCompare) ∧
  (decode 0x00000030 = .ok (.ecAdd false) ∧ decode 0x00000130 = .ok (.ecAdd true) ∧
    decode 0x00000031 = .ok (.ecDbl false) ∧ decode 0x00000131 = .ok (.ecDbl true) ∧
    decode 0x00000032 = .ok .ecCheck) ∧
  (decode 0x00000038 = .ok .x25519 ∧ decode 0x00000039 = .ok .x448 ∧ decode 0x00000040 = .ok .modexp) ∧
  (decode 0x00000048 = .ok .berTag ∧ decode 0x00000049 = .ok .berSeq ∧ decode 0x0000004A = .ok .berInt) ∧
  decode 0x00000132 = .error .reservedV

/-! ### The step -/

/-- R253: when the engine moves, the step is exec of the command CMDL decodes to; that it moves when no input is early
is the model's choice (log entries 6 and 9). -/
def Obligations.StepRunsDecodedCommand : Prop :=
  ∀ (s : State) (i : Instr), s.phase = .running →
    (s.inbox = [] ∨ ∃ e rest, s.inbox = e :: rest ∧ e.early = false) →
    decode s.cmdl = .ok i → step s = exec i s

/-- R60, R80, R274 and log entries 6, 7 and 12: the host's next input is performed when no command runs or when it
arrives early; with neither a command nor an input, the step changes nothing; an access to neither window is refused. -/
def Obligations.HostInputsArePerformedInOrder : Prop :=
  (∀ (s : State) (addr size : Nat) (v : Word), addr < s.params.baseCsr ∨ s.params.baseCsr + 4096 ≤ addr →
    addr < s.params.baseDmem ∨ s.params.baseDmem + s.params.dmemBytes ≤ addr →
    hostInput s (.read addr size) = .refused .outsideWindows ∧
      hostInput s (.write addr size v) = .refused .outsideWindows) ∧
  ∀ s : State,
    (∀ e rest, s.inbox = e :: rest → (s.phase = .idle ∨ e.early = true) →
      step s = hostInput { s with inbox := rest } e.input) ∧
    (s.phase = .idle → s.inbox = [] → step s = .next s)

/-- R253, R296 with log entries 6 and 7: a running command has ended, or a reset has abandoned it, or a host access was
refused, after at most one step more than there are inputs to come. -/
def Obligations.IssuedCommandsEndUnlessAnAccessIsRefused : Prop :=
  ∀ s : State, s.phase = .running →
    ∃ k, 1 ≤ k ∧ k ≤ s.inbox.length + 1 ∧
      match core.run k s with
      | .next t => t.phase = .idle
      | .fault _ => False
      | .refused _ => True

/-! ### Reset and the invariant -/

/-- The invariant of Safety.lean holds after power-on reset of a CORE with any legal parameters. -/
def Obligations.InvariantHoldsAtReset : Prop :=
  State.reset.Inv ∧ ∀ p : Params, p.wellFormed = true → (State.powerOn p).Inv

/-- Every step keeps the invariant of Safety.lean: canonical DMEM inside DMEM_BYTES, key stores that are empty or hold
an expansion (R31, R33), RESULT = 0 with an error (R25), a running command's cleared outcome (R26), RES0 (R29). -/
def Obligations.EveryStepKeepsTheInvariant : Prop :=
  ∀ s t : State, s.Inv → step s = .next t → t.Inv

/-- R42, R21, R280: what power-on reset leaves, for any parameters; that no DMEM byte is listed is the model's way to
say that each is a draw (log entry 3). Power-on reset as an input event leaves the same, with a power-on number of its
own (log entry 14). -/
def Obligations.PowerOnResetValues : Prop :=
  (∀ s : State, hostInput s .powerOn = .next { State.powerOn s.params with
    epoch := s.draws, draws := s.draws + 1, inbox := s.inbox, replies := s.replies }) ∧
  ∀ p : Params,
    (∀ off, off % 4 = 0 → 0x00C ≤ off → off < 0x1000 → csrRead (State.powerOn p) (csrAt off) = 0) ∧
    csrRead (State.powerOn p) (csrAt 0x000) = 0x50443036 ∧ csrRead (State.powerOn p) (csrAt 0x004) = 0x00010007 ∧
    csrRead (State.powerOn p) (csrAt 0x008) = configWord p ∧
    (State.powerOn p).phase = .idle ∧ (State.powerOn p).argl = Vector.replicate 8 0 ∧
    (State.powerOn p).aes = AesUnit.zero ∧ (State.powerOn p).bf = BfUnit.zero ∧ (State.powerOn p).gh = GhUnit.zero ∧
    (State.powerOn p).irq = false ∧ ∀ x, (State.powerOn p).dmem.read? x = none

/-- R24, R281: a write of CTRL with bit 1 = 1 puts every register, store and flag at its reset value at once, whatever
runs; DMEM is kept when no command runs. -/
def Obligations.SoftResetClearsAllButDmem : Prop :=
  ∀ (s : State) (v : Word), v.getLsbD 1 = true →
    ∃ t, csrWrite s .ctrl v = t ∧
      t = { State.powerOn s.params with
            dmem := t.dmem, epoch := s.epoch, draws := t.draws, inbox := s.inbox, replies := s.replies } ∧
      statusWord t = 0 ∧ ctrlWord t = 0 ∧ t.irq = false ∧ (s.phase = .idle → SameDmem s t)

/-- R282 with log entry 5 (the model's reading of "would MemWrite if it completed"): a command abandoned by a soft reset
leaves a draw in each byte it would have stored and every other byte alone; a command that would store nothing leaves
DMEM alone. -/
def Obligations.AbandonedCommandDrawsItsOutput : Prop :=
  ∀ (s : State) (v : Word), v.getLsbD 1 = true → s.phase = .running →
    (∀ e a bs, ruleOfWord s.cmdl s = .ok e → e.dmem = some (a, bs) →
      SameDmemOutside s (csrWrite s .ctrl v) a bs.length ∧
      ∀ k, k < bs.length → (csrWrite s .ctrl v).readByte (a + k) = Config.abandonedByte s.draws (a + k)) ∧
    (∀ e, ruleOfWord s.cmdl s = .ok e → e.dmem = none → SameDmem s (csrWrite s .ctrl v)) ∧
    (∀ c, ruleOfWord s.cmdl s = .error c → SameDmem s (csrWrite s .ctrl v))

/-! ### The host port -/

/-- R26: a write of CMD issues when idle and is dropped with OVERRUN when busy; a read of CMD returns the last issued
word. -/
def Obligations.CommandIssue : Prop :=
  ∀ (s : State) (w : Word),
    (s.phase = .idle → csrWrite s .cmd w =
      { s with cmdl := w, argl := s.arg, phase := .running, done := false, result := false, errcode := none }) ∧
    (s.phase = .running → csrWrite s .cmd w = { s with overrun := true }) ∧
    csrRead s .cmd = s.cmdl ∧ csrRead (csrWrite s .cmd w) .cmd = (if s.phase = .idle then w else s.cmdl)

/-- R25: the bits of STATUS, and what a write of STATUS clears. -/
def Obligations.StatusRegister : Prop :=
  ∀ (s : State) (v : Word),
    (csrRead s .status).getLsbD 0 = (s.phase == .running) ∧ (csrRead s .status).getLsbD 1 = s.done ∧
    (csrRead s .status).getLsbD 2 = (s.errcode != none) ∧ (csrRead s .status).getLsbD 3 = s.result ∧
    (csrRead s .status).getLsbD 4 = s.aes.kv ∧ (csrRead s .status).getLsbD 5 = s.bf.kv ∧
    (csrRead s .status).getLsbD 6 = s.gh.hv ∧ (csrRead s .status).getLsbD 7 = s.overrun ∧
    (csrRead s .status).getLsbD 8 = s.accerr ∧ csrRead s .status >>> 9 = 0 ∧
    csrWrite s .status v = { s with
      done := s.done && !v.getLsbD 1, overrun := s.overrun && !v.getLsbD 7, accerr := s.accerr && !v.getLsbD 8 }

/-- R22, R23: the identification registers; CONFIG reports the parameters. -/
def Obligations.IdentificationRegisters : Prop :=
  ∀ s : State, csrRead s .id = 0x50443036 ∧ csrRead s .version = 0x00010007 ∧
    (s.params.wellFormed = true →
      (csrRead s .config).toNat = s.params.dmemBytes / 256 + s.params.lmax * 2 ^ 16 +
        (if s.params.aes192 then 2 ^ 28 else 0))

/-- R21, R24, R27, R28, R29, R30, R251: the map of the register block, what each register reads, ERRCODE by the table of
R251 and STATUS.ERR by ERRCODE (R25), and what an idle write of CTRL, ARG0 to ARG7, BER_POS, BER_END and of the read-only and reserved offsets changes. -/
def Obligations.RegisterMap : Prop :=
  (csrAt 0x000 = .id ∧ csrAt 0x004 = .version ∧ csrAt 0x008 = .config ∧ csrAt 0x00C = .ctrl ∧ csrAt 0x010 = .status ∧
    csrAt 0x014 = .errcode ∧ csrAt 0x018 = .cmd ∧ csrAt 0x01C = .reserved ∧ csrAt 0x050 = .berPos ∧
    csrAt 0x054 = .berEnd ∧ (∀ i : Fin 8, csrAt (0x020 + 4 * i.val) = .arg i) ∧
    (∀ i : Fin 4, csrAt (0x040 + 4 * i.val) = .res i) ∧ ∀ off, 0x058 ≤ off → csrAt off = .reserved) ∧
  (∀ s : State, csrRead s .reserved = 0 ∧
    csrRead s .errcode = (match s.errcode with
      | none => 0x00
      | some .badCmd => 0x01
      | some .keyLen => 0x02
      | some .noKey => 0x03
      | some .addr => 0x04
      | some .len => 0x05
      | some .modulus => 0x06
      | some .range => 0x07
      | some .point => 0x08
      | some .noInv => 0x09) ∧
    (csrRead s .status).getLsbD 2 = (csrRead s .errcode != 0) ∧
    csrRead s .ctrl = (if s.irqEn then 1 else 0) ∧ (∀ i : Fin 8, csrRead s (.arg i) = s.arg[i]) ∧
    csrRead s (.res 0) = s.res.res0 ∧ csrRead s (.res 1) = s.res.res1 ∧ csrRead s (.res 2) = s.res.res2 ∧
    csrRead s (.res 3) = s.res.res3 ∧ csrRead s .berPos = s.berPos ∧ csrRead s .berEnd = s.berEnd) ∧
  (∀ (s : State) (v : Word) (i : Fin 8) (j : Fin 4),
    csrRead (csrWrite s (.arg i) v) (.arg i) = v ∧
    (∀ k, k ≠ i → csrRead (csrWrite s (.arg i) v) (.arg k) = csrRead s (.arg k)) ∧
    csrWrite s (.arg i) v = { s with arg := (csrWrite s (.arg i) v).arg } ∧
    (v.getLsbD 1 = false → csrWrite s .ctrl v = { s with irqEn := v.getLsbD 0 }) ∧
    (s.phase = .idle → csrWrite s .berPos v = { s with berPos := v } ∧
      csrWrite s .berEnd v = { s with berEnd := v }) ∧
    csrWrite s .reserved v = s ∧ csrWrite s .id v = s ∧ csrWrite s .version v = s ∧ csrWrite s .config v = s ∧
    csrWrite s .errcode v = s ∧ csrWrite s (.res j) v = s)

/-- R262, R263: the interrupt level, at every instant, at completion, acknowledge, issue, and a change of IRQ_EN. -/
def Obligations.InterruptLevel : Prop :=
  (∀ s : State, s.irq = ((csrRead s .ctrl).getLsbD 0 && (csrRead s .status).getLsbD 1)) ∧
  (∀ (i : Instr) (s t : State), exec i s = .next t → t.irq = s.irqEn) ∧
  ∀ (s : State) (v : Word),
    (v.getLsbD 1 = true → (csrWrite s .status v).irq = false) ∧
    (s.phase = .idle → (csrWrite s .cmd v).irq = false) ∧
    (v.getLsbD 1 = false → (csrWrite s .ctrl v).irq = (v.getLsbD 0 && s.done) ∧
      (csrWrite s .ctrl v).done = s.done) ∧
    (v.getLsbD 1 = true → (csrWrite s .ctrl v).irq = false) ∧ State.reset.irq = false ∧
    csrWrite s .status 0x182 = { s with done := false, overrun := false, accerr := false }

/-- R66: busy DMEM accesses and busy writes of BER_POS and BER_END: ACCERR is set, writes are dropped, no DMEM byte
changes; a DMEM read returns a draw (log entry 4). Busy reads of BER_POS and BER_END are not meant: they set no ACCERR
(HostProtocol, log entry 13). -/
def Obligations.BusyDmemAccessesAndBerWritesAreDropped : Prop :=
  ∀ (s : State) (off size : Nat) (v : Word), s.phase = .running →
    dmemHostWrite s off size v = { s with accerr := true } ∧
    csrWrite s .berPos v = { s with accerr := true } ∧ csrWrite s .berEnd v = { s with accerr := true } ∧
    ∃ w, dmemHostRead s off size = { s with accerr := true, draws := s.draws + 1, replies := s.replies ++ [w] }

/-- R63, R65: an idle DMEM write stores the value's bytes least significant first and changes nothing else; an idle read
returns the bytes the same way and changes nothing. That a narrow value travels in the low bits of a 32-bit word, the
rest of a reply being 0, is the model's choice (log entry 18), and so are the replies (log entry 7). -/
def Obligations.IdleDmemAccessIsLittleEndian : Prop :=
  ∀ (s : State) (off size : Nat) (v : Word), s.phase = .idle → dmemAccessOk s.params off size = true →
    (∃ t, dmemHostWrite s off size v = t ∧ t = { s with dmem := t.dmem } ∧ SameDmemOutside s t off size ∧
      ∀ k, k < size → t.readByte (off + k) = v.extractLsb' (8 * k) 8) ∧
    ∃ w : Word, dmemHostRead s off size = { s with replies := s.replies ++ [w] } ∧
      (∀ k, k < size → w.extractLsb' (8 * k) 8 = s.readByte (off + k)) ∧ w.toNat < 2 ^ (8 * size)

/-- R60, R61, R62, R64: which host accesses to the two windows are refused, and what each of the others does: a register
read answers the register's value and changes nothing, a register write does what the register's rule says, and a
DMEM access moves the bytes at its offset. The list of answers is the model's (log entry 7); that a busy read of BER_POS
or BER_END sets no ACCERR is its reading of R30, R64 and R66, where R25 and R252 could be read otherwise (log entry
13). -/
def Obligations.HostProtocol : Prop :=
  ∀ (s : State) (addr size : Nat) (v : Word), s.params.wellFormed = true →
    (∀ off, addr = s.params.baseCsr + off → off < 4096 →
      if size = 4 ∧ off % 4 = 0 then
        hostRead s addr size = .next { s with replies := s.replies ++ [csrRead s (csrAt off)] } ∧
          hostWrite s addr size v = .next (csrWrite s (csrAt off) v)
      else hostRead s addr size = .refused .csrProtocol ∧ hostWrite s addr size v = .refused .csrProtocol) ∧
    (∀ off, addr = s.params.baseDmem + off → off < s.params.dmemBytes →
      if (size = 1 ∨ size = 2 ∨ size = 4) ∧ off % size = 0 ∧ off + size ≤ s.params.dmemBytes then
        hostRead s addr size = .next (dmemHostRead s off size) ∧
          hostWrite s addr size v = .next (dmemHostWrite s off size v)
      else hostRead s addr size = .refused .dmemProtocol ∧ hostWrite s addr size v = .refused .dmemProtocol)

/-- R32: two states that differ only in RK, P, S and H give the host the same replies, and neither a host input nor a
command makes them differ in more, but for the outputs R32 names: the block AES_ENC, AES_DEC, BF_ENC or BF_DEC stores,
and the X of GH_UPDATE. -/
def Obligations.KeysShowOnlyInCipherOutputs : Prop :=
  ∀ s s' : State, s.agreeButKeys s' →
    (∀ input, match hostInput s input with
      | .next t => ∃ t', hostInput s' input = .next t' ∧ t.agreeButKeys t' ∧ t'.replies = t.replies
      | .fault _ => False
      | .refused r => hostInput s' input = .refused r) ∧
    ∀ (i : Instr) (t : State), exec i s = .next t → ∃ t', exec i s' = .next t' ∧
      (i ∉ [.aesEnc, .aesDec, .bfEnc, .bfDec, .ghUpdate] → t.agreeButKeys t') ∧
      (i ∈ [.aesEnc, .aesDec] → { t with dmem := t'.dmem }.agreeButKeys t' ∧ SameDmemOutside t t' (s.argN 1) 16) ∧
      (i ∈ [.bfEnc, .bfDec] → { t with dmem := t'.dmem }.agreeButKeys t' ∧ SameDmemOutside t t' (s.argN 1) 8) ∧
      (i = .ghUpdate → { t with gh := { t.gh with x := t'.gh.x } }.agreeButKeys t')

/-! ### All commands -/

/-- R250: every command ends in one of the three outcomes, and only five commands have a negative result. -/
def Obligations.EveryCommandHasOneOfThreeOutcomes : Prop :=
  ∀ (i : Instr) (s : State), ∃ t, exec i s = .next t ∧ t.done = true ∧ t.phase = .idle ∧
    ((t.errcode = none ∧ t.result = true) ∨
      (t.errcode = none ∧ t.result = false ∧ canBeNegative i = true) ∨
      (t.errcode ≠ none ∧ t.result = false))

/-- R254, R256: a command that ends with an error, or a BER command, EC_CHECK or CT_COMPARE that ends with a negative
result (R234), changes nothing but the outcome bits. -/
def Obligations.FailingCommandsChangeNothingElse : Prop :=
  ∀ (i : Instr) (s t : State), exec i s = .next t → t.result = false →
    t = { s with result := false, errcode := t.errcode, done := true, phase := .idle }

/-- R27, R30, R38: no command writes CTRL, OVERRUN, ACCERR, ARG0 to ARG7, BER_END or CMD, nor the latched arguments. -/
def Obligations.CommandsKeepTheHostsRegisters : Prop :=
  ∀ (i : Instr) (s t : State), exec i s = .next t →
    t.irqEn = s.irqEn ∧ t.overrun = s.overrun ∧ t.accerr = s.accerr ∧ t.arg = s.arg ∧ t.berEnd = s.berEnd ∧
      t.cmdl = s.cmdl ∧ t.argl = s.argl ∧ t.params = s.params ∧ t.epoch = s.epoch ∧ t.draws = s.draws ∧
      t.inbox = s.inbox ∧ t.replies = s.replies

/-- R29, R30: among the commands, only a successful BER command or ZEROIZE writes RES0 to RES3, and only a successful
BER command moves BER_POS, always forward and never beyond BER_END. -/
def Obligations.OnlyBerCommandsWriteResults : Prop :=
  ∀ (i : Instr) (s t : State), exec i s = .next t →
    (t.res ≠ s.res → i = .zeroize ∨ (t.result = true ∧ (i = .berTag ∨ i = .berSeq ∨ i = .berInt))) ∧
    (t.berPos ≠ s.berPos → t.result = true ∧ (i = .berTag ∨ i = .berSeq ∨ i = .berInt) ∧
      s.berPos.toNat < t.berPos.toNat ∧ t.berPos.toNat ≤ s.berEnd.toNat)

/-- R34: a unit's key schedule is changed by a step only when its own key command or ZEROIZE completes, or by a reset;
and H and X likewise only by commands of the GH unit, so AES_KEY leaves both. -/
def Obligations.KeyStoresChangeOnlyByTheirOwnCommands : Prop :=
  ∀ s t : State, step s = .next t →
    (t.aes ≠ s.aes → s.completes [.aesKey, .zeroize] ∨ s.resetMoves) ∧
    (t.bf ≠ s.bf → s.completes [.bfKey, .zeroize] ∨ s.resetMoves) ∧
    (t.gh.h ≠ s.gh.h ∨ t.gh.hv ≠ s.gh.hv → s.completes [.ghSetH, .ghDeriveH, .zeroize] ∨ s.resetMoves) ∧
    (t.gh.x ≠ s.gh.x → s.completes [.ghClear, .ghLoadX, .ghUpdate, .zeroize] ∨ s.resetMoves)

/-! ### Control commands -/

/-- R110: NOP. -/
def Obligations.NopOnlyCompletes : Prop :=
  ∀ s : State, exec .nop s = .next { s with result := true, errcode := none, done := true, phase := .idle }

/-- R111: ZEROIZE. -/
def Obligations.ZeroizeClearsEveryStore : Prop :=
  ∀ s : State, ∃ t, exec .zeroize s = .next t ∧
    t = { s.ended true with
          dmem := t.dmem, aes := AesUnit.zero, bf := BfUnit.zero, gh := GhUnit.zero, res := ResRegs.zero } ∧
    (∀ x, x < s.params.dmemBytes → t.readByte x = 0) ∧ SameDmemOutside s t 0 s.params.dmemBytes

/-! ### AES -/

/-- R126: AES_KEY. -/
def Obligations.AesKeyLoadsTheSchedule : Prop :=
  ∀ s : State,
    let n := s.argN 1
    let legal := n = 16 ∨ n = 32 ∨ (n = 24 ∧ s.params.aes192 = true)
    (¬ legal → Fails .aesKey s .keyLen) ∧
    (legal → ¬ s.inRange (s.argN 0) n → Fails .aesKey s .addr) ∧
    (legal → s.inRange (s.argN 0) n → ∃ t, exec .aesKey s = .next t ∧
      t = { s.ended true with aes := t.aes } ∧ t.aes.nk = n / 4 ∧ t.aes.nr = n / 4 + 6 ∧ t.aes.kv = true ∧
      ∀ i : Fin 60, t.aes.rk[i] =
        if i.val < 4 * (n / 4 + 7) then (keyExpansion (s.memRead (s.argN 0) n) (n / 4)).getD i.val 0 else 0)

/-- R124: the key expansion, word by word. -/
def Obligations.KeyExpansionFollowsItsRecurrence : Prop :=
  ∀ (key : Bytes) (nk : Nat), (nk = 4 ∨ nk = 6 ∨ nk = 8) → key.length = 4 * nk →
    let w := fun i => (keyExpansion key nk).getD i 0
    let rot := fun t : Word => (t <<< 8) ||| (t >>> 24)
    let sub := fun t : Word => (sbox (t.extractLsb' 24 8) ++ sbox (t.extractLsb' 16 8)) ++
      (sbox (t.extractLsb' 8 8) ++ sbox (t.extractLsb' 0 8))
    let rconWord := fun j : Nat => BitVec.ofNat 32
      ([0x01, 0x02, 0x04, 0x08, 0x10, 0x20, 0x40, 0x80, 0x1b, 0x36].getD (j - 1) 0 * 2 ^ 24)
    (keyExpansion key nk).length = 4 * (nk + 7) ∧
    (∀ i, i < nk → (w i).toNat = beNat ((key.drop (4 * i)).take 4)) ∧
    ∀ i, nk ≤ i → i < 4 * (nk + 7) →
      w i = w (i - nk) ^^^
        (if i % nk = 0 then sub (rot (w (i - 1))) ^^^ rconWord (i / nk)
          else if nk = 8 ∧ i % nk = 4 then sub (w (i - 1)) else w (i - 1))

/-- R121, R122: the byte product is the one linear map with a * 01 = a and a * xtime(b) = xtime(a * b); the S-box is the
affine map of the inverse in GF(2^8), and InvSbox undoes it. -/
def Obligations.SboxFollowsItsDefinition : Prop :=
  let xt := fun b : Byte => (b <<< 1) ^^^ (if b.msb then 0x1B else 0)
  let affine := fun b : Byte => b ^^^ b.rotateLeft 1 ^^^ b.rotateLeft 2 ^^^ b.rotateLeft 3 ^^^ b.rotateLeft 4 ^^^ 0x63
  (∀ a : Byte, gfMul8 a 1 = a) ∧ (∀ a b : Byte, gfMul8 a (xt b) = xt (gfMul8 a b)) ∧
    (∀ a b c : Byte, gfMul8 a (b ^^^ c) = gfMul8 a b ^^^ gfMul8 a c) ∧
    (∀ a : Byte, a ≠ 0 → ∃ b : Byte, gfMul8 a b = 1) ∧ sbox 0 = affine 0 ∧
    (∀ a b : Byte, gfMul8 a b = 1 → sbox a = affine b) ∧ ∀ a : Byte, invSbox (sbox a) = a

/-- R127, R128: AES_ENC and AES_DEC, whatever the overlap of the two ranges. -/
def Obligations.AesBlockCommands : Prop :=
  ∀ (s : State) (i : Instr) (f : AesUnit → Bytes → Bytes),
    (i = .aesEnc ∧ f = aesEncrypt ∨ i = .aesDec ∧ f = aesDecrypt) →
    (¬ (s.inRange (s.argN 0) 16 ∧ s.inRange (s.argN 1) 16) → Fails i s .addr) ∧
    (s.inRange (s.argN 0) 16 → s.inRange (s.argN 1) 16 → s.aes.kv = false → Fails i s .noKey) ∧
    (s.inRange (s.argN 0) 16 → s.inRange (s.argN 1) 16 → s.aes.kv = true →
      Stores i s (s.argN 1) (f s.aes (s.memRead (s.argN 0) 16)) ∧
      (f s.aes (s.memRead (s.argN 0) 16)).length = 16)

/-- R120, R123, R125: the cipher, byte by byte: st n r c is the state in row r and column c after AddRoundKey(n); and,
for every content of the unit, the inverse cipher undoes the cipher. -/
def Obligations.AesCipherAndItsInverse : Prop :=
  ∀ (u : AesUnit) (b : Bytes), b.length = 16 →
    aesDecrypt u (aesEncrypt u b) = b ∧
    ((u.nr = 10 ∨ u.nr = 12 ∨ u.nr = 14) → ∃ st : Nat → Fin 4 → Fin 4 → Byte,
      let key := fun (n : Nat) (r c : Fin 4) => (u.rk.toList.getD (4 * n + c.val) 0).extractLsb' (24 - 8 * r.val) 8
      let y := fun (n : Nat) (r c : Fin 4) => sbox (st n r (c + r))
      let xt := fun a : Byte => (a <<< 1) ^^^ (if a.msb then 0x1B else 0)
      (∀ r c, st 0 r c = b.getD (r.val + 4 * c.val) 0 ^^^ key 0 r c) ∧
      (∀ n r c, n + 1 < u.nr → st (n + 1) r c =
        xt (y n r c) ^^^ (xt (y n (r + 1) c) ^^^ y n (r + 1) c) ^^^ y n (r + 2) c ^^^ y n (r + 3) c ^^^ key (n + 1) r c) ∧
      (∀ r c, st u.nr r c = y (u.nr - 1) r c ^^^ key u.nr r c) ∧
      (aesEncrypt u b).length = 16 ∧ ∀ r c, (aesEncrypt u b).getD (r.val + 4 * c.val) 0 = st u.nr r c)

/-! ### Blowfish -/

/-- R145: BF_KEY. -/
def Obligations.BfKeyLoadsTheSchedule : Prop :=
  ∀ s : State,
    let n := s.argN 1
    (¬ (1 ≤ n ∧ n ≤ 56) → Fails .bfKey s .keyLen) ∧
    (1 ≤ n → n ≤ 56 → ¬ s.inRange (s.argN 0) n → Fails .bfKey s .addr) ∧
    (1 ≤ n → n ≤ 56 → s.inRange (s.argN 0) n → exec .bfKey s =
      .next { s.ended true with bf := bfSchedule (s.memRead (s.argN 0) n) }) ∧
    ∀ key, (bfSchedule key).kv = true

/-- R144: the initial P-array, the first and the last two words of each initial S-box, and the sum of each S-box's words
with word j counted j + 1 times, all taken from section 4 of 42_blowfish.md. R143: the schedule is 521 encryptions one
after the other, each under the unit as it stands: the first nine fill the P-array, the others S[0] to S[3], two words
each. -/
def Obligations.BfScheduleFollowsItsLoops : Prop :=
  let weight := fun v : Vector Word 256 => ((List.range 256).map (fun j => (j + 1) * (v.toList.getD j 0).toNat)).sum
  (bfInitP.toList.map BitVec.toNat = [0x243f6a88, 0x85a308d3, 0x13198a2e, 0x03707344, 0xa4093822, 0x299f31d0,
    0x082efa98, 0xec4e6c89, 0x452821e6, 0x38d01377, 0xbe5466cf, 0x34e90c6c,
    0xc0ac29b7, 0xc97c50dd, 0x3f84d5b5, 0xb5470917, 0x9216d5d9, 0x8979fb1b]) ∧
  (bfInitS[0][0] = 0xd1310ba6 ∧ bfInitS[0][1] = 0x98dfb5ac ∧ bfInitS[0][254] = 0x08ba4799 ∧ bfInitS[0][255] = 0x6e85076a ∧
    weight bfInitS[0] = 74030277926788) ∧
  (bfInitS[1][0] = 0x4b7a70e9 ∧ bfInitS[1][1] = 0xb5b32944 ∧ bfInitS[1][254] = 0xe6e39f2b ∧ bfInitS[1][255] = 0xdb83adf7 ∧
    weight bfInitS[1] = 71377498670057) ∧
  (bfInitS[2][0] = 0xe93d5a68 ∧ bfInitS[2][1] = 0x948140f7 ∧ bfInitS[2][254] = 0x670efa8e ∧ bfInitS[2][255] = 0x406000e0 ∧
    weight bfInitS[2] = 72470984040880) ∧
  (bfInitS[3][0] = 0x3a39ce37 ∧ bfInitS[3][1] = 0xd3faf5cf ∧ bfInitS[3][254] = 0x578fdfe3 ∧ bfInitS[3][255] = 0x3ac372e6 ∧
    weight bfInitS[3] = 73938403737842) ∧
  ∀ key : Bytes, ∃ (u : Nat → BfUnit) (lr : Nat → Word × Word),
    (u 0).kv = true ∧ (u 0).s = bfInitS ∧ lr 0 = (0, 0) ∧
    (∀ i : Fin 18, ∃ k : Word, (u 0).p[i] = bfInitP[i] ^^^ k ∧
      k.toNat = beNat ((List.range 4).map (fun j => key.getD ((4 * i.val + j) % key.length) 0))) ∧
    (∀ n, lr (n + 1) = bfEncryptWords (u n) (lr n).1 (lr n).2) ∧
    (∀ n, n < 9 → (u (n + 1)).s = (u n).s ∧ ∀ i : Fin 18, (u (n + 1)).p[i] =
      if i.val = 2 * n then (lr (n + 1)).1 else if i.val = 2 * n + 1 then (lr (n + 1)).2 else (u n).p[i]) ∧
    (∀ n, 9 ≤ n → n < 521 → (u (n + 1)).p = (u n).p ∧ ∀ (k : Fin 4) (j : Fin 256), (u (n + 1)).s[k][j] =
      if k.val = (n - 9) / 128 ∧ j.val = 2 * ((n - 9) % 128) then (lr (n + 1)).1
      else if k.val = (n - 9) / 128 ∧ j.val = 2 * ((n - 9) % 128) + 1 then (lr (n + 1)).2
      else (u n).s[k][j]) ∧
    bfSchedule key = u 521

/-- R143, R145: a key repeated gives the schedule of the shorter key. -/
def Obligations.BfKeysAreUsedCyclically : Prop :=
  ∀ (key : Bytes) (m : Nat), key ≠ [] → 1 ≤ m → bfSchedule (List.replicate m key).flatten = bfSchedule key

/-- R146, R147: BF_ENC and BF_DEC, whatever the overlap of the two ranges. -/
def Obligations.BfBlockCommands : Prop :=
  ∀ (s : State) (i : Instr) (f : BfUnit → Word → Word → Word × Word),
    (i = .bfEnc ∧ f = bfEncryptWords ∨ i = .bfDec ∧ f = bfDecryptWords) →
    (¬ (s.inRange (s.argN 0) 8 ∧ s.inRange (s.argN 1) 8) → Fails i s .addr) ∧
    (s.inRange (s.argN 0) 8 → s.inRange (s.argN 1) 8 → s.bf.kv = false → Fails i s .noKey) ∧
    (s.inRange (s.argN 0) 8 → s.inRange (s.argN 1) 8 → s.bf.kv = true →
      ∀ l r : Word, l.toNat = beNat (s.memRead (s.argN 0) 4) → r.toNat = beNat (s.memRead (s.argN 0 + 4) 4) →
        Stores i s (s.argN 1) (beBytes 4 (f s.bf l r).1.toNat ++ beBytes 4 (f s.bf l r).2.toNat))

/-- R141, R142: encryption and decryption, round by round: e n and d n are (L, R) after n rounds; and, for every
schedule, decryption undoes encryption. -/
def Obligations.BfCipherAndItsInverse : Prop :=
  ∀ (u : BfUnit) (l r : Word),
    let box := fun (k : Fin 4) (j : Nat) => u.s[k].toList.getD j 0
    let f := fun x : Word => ((box 0 (x.toNat / 2 ^ 24) + box 1 (x.toNat / 2 ^ 16 % 256)) ^^^ box 2 (x.toNat / 2 ^ 8 % 256))
      + box 3 (x.toNat % 256)
    let pw := fun n : Nat => u.p.toList.getD n 0
    bfDecryptWords u (bfEncryptWords u l r).1 (bfEncryptWords u l r).2 = (l, r) ∧
    (∃ e : Nat → Word × Word, e 0 = (l, r) ∧
      (∀ n, n < 16 → e (n + 1) = ((e n).2 ^^^ f ((e n).1 ^^^ pw n), (e n).1 ^^^ pw n)) ∧
      bfEncryptWords u l r = ((e 16).2 ^^^ pw 17, (e 16).1 ^^^ pw 16)) ∧
    ∃ d : Nat → Word × Word, d 0 = (l, r) ∧
      (∀ n, n < 16 → d (n + 1) = ((d n).2 ^^^ f ((d n).1 ^^^ pw (17 - n)), (d n).1 ^^^ pw (17 - n))) ∧
      bfDecryptWords u l r = ((d 16).2 ^^^ pw 0, (d 16).1 ^^^ pw 1)

/-! ### GHASH -/

/-- R163, R164, R165, R166: GH_SETH, GH_DERIVEH, GH_CLEAR and GH_LOADX. -/
def Obligations.GhSubkeyAndAccumulatorCommands : Prop :=
  ∀ s : State,
    (¬ s.inRange (s.argN 0) 16 → Fails .ghSetH s .addr ∧ Fails .ghLoadX s .addr) ∧
    (s.inRange (s.argN 0) 16 → ∀ b : Block, b.toNat = beNat (s.memRead (s.argN 0) 16) →
      exec .ghSetH s = .next { s.ended true with gh := { s.gh with h := b, hv := true } } ∧
      exec .ghLoadX s = .next { s.ended true with gh := { s.gh with x := b } }) ∧
    (s.aes.kv = false → Fails .ghDeriveH s .noKey) ∧
    (s.aes.kv = true → ∀ b : Block, b.toNat = beNat (aesEncrypt s.aes (List.replicate 16 0)) →
      exec .ghDeriveH s = .next { s.ended true with gh := { s.gh with h := b, hv := true } }) ∧
    exec .ghClear s = .next { s.ended true with gh := { s.gh with x := 0 } }

/-- R167: GH_UPDATE folds n blocks into X and writes no DMEM. -/
def Obligations.GhUpdateFoldsBlocks : Prop :=
  ∀ s : State,
    let n := s.argN 1
    (¬ s.inRange (s.argN 0) (16 * n) → Fails .ghUpdate s .addr) ∧
    (s.inRange (s.argN 0) (16 * n) → s.gh.hv = false → Fails .ghUpdate s .noKey) ∧
    (s.inRange (s.argN 0) (16 * n) → s.gh.hv = true →
      ∀ x : Nat → Block, x 0 = s.gh.x →
        (∀ i, i < n → x (i + 1) = gfMult (x i ^^^ blockOf (s.memRead (s.argN 0 + 16 * i) 16)) s.gh.h) →
        exec .ghUpdate s = .next { s.ended true with gh := { s.gh with x := x n } })

/-- R162, R166: a GHASH stopped after n blocks and resumed for m more is the GHASH of all n + m. -/
def Obligations.GhashResumes : Prop :=
  ∀ (h x : Block) (data : Bytes) (n m : Nat), data.length = 16 * (n + m) →
    ghashFold h (ghashFold h x (data.take (16 * n)) n) (data.drop (16 * n)) m = ghashFold h x data (n + m)

/-- R169, R170: GH_STOREX and GF_MUL. -/
def Obligations.GhStoreCommands : Prop :=
  ∀ s : State,
    (¬ s.inRange (s.argN 0) 16 → Fails .ghStoreX s .addr) ∧
    (s.inRange (s.argN 0) 16 → Stores .ghStoreX s (s.argN 0) (beBytes 16 s.gh.x.toNat)) ∧
    (¬ (s.inRange (s.argN 0) 16 ∧ s.inRange (s.argN 1) 16 ∧ s.inRange (s.argN 2) 16) → Fails .gfMul s .addr) ∧
    (s.inRange (s.argN 0) 16 → s.inRange (s.argN 1) 16 → s.inRange (s.argN 2) 16 →
      ∀ a b : Block, a.toNat = beNat (s.memRead (s.argN 0) 16) → b.toNat = beNat (s.memRead (s.argN 1) 16) →
        Stores .gfMul s (s.argN 2) (beBytes 16 (gfMult a b).toNat))

/-- R160, R161: GF_Mult is the product of R160: a commutative, associative product that distributes over XOR, with the
identity 80..00, in which x^k times x is x^(k+1) for k < 127 and x^127 times x is 1 + x + x^2 + x^7 = E1..00. -/
def Obligations.GfMultIsThePolynomialProduct : Prop :=
  (∀ a b : Block, gfMult a b = gfMult b a) ∧ (∀ a b c : Block, gfMult (gfMult a b) c = gfMult a (gfMult b c)) ∧
    (∀ a b c : Block, gfMult a (b ^^^ c) = gfMult a b ^^^ gfMult a c) ∧
    (∀ a : Block, gfMult a 0 = 0) ∧ (∀ a : Block, gfMult a 0x80000000000000000000000000000000 = a) ∧
    (∀ k, k < 127 → gfMult ((1 : Block) <<< (127 - k)) 0x40000000000000000000000000000000 = (1 : Block) <<< (126 - k)) ∧
    gfMult 1 0x40000000000000000000000000000000 = 0xE1000000000000000000000000000000

/-- R171: CT_COMPARE gives 1 exactly for equal strings, and writes nothing. -/
def Obligations.CtCompareDecidesEquality : Prop :=
  ∀ s : State,
    let n := s.argN 2
    (¬ (s.inRange (s.argN 0) n ∧ s.inRange (s.argN 1) n) → Fails .ctCompare s .addr) ∧
    (s.inRange (s.argN 0) n → s.inRange (s.argN 1) n → ∃ b : Bool, exec .ctCompare s = .next (s.ended b) ∧
      (b = true ↔ ∀ k, k < n → s.readByte (s.argN 0 + k) = s.readByte (s.argN 1 + k)))

/-! ### Weierstrass -/

/-- R9: inv_m(d) is the unique inverse in [0, m), and exists exactly when gcd(d, m) = 1. -/
def Obligations.InverseModulo : Prop :=
  ∀ m d : Nat, 2 ≤ m →
    (Nat.gcd d m = 1 → ∃ v, invMod m d = .ok v ∧ v < m ∧ d * v % m = 1) ∧
    (Nat.gcd d m ≠ 1 → invMod m d = .error .noInv)

/-- R181: decoding a point string, and enc. -/
def Obligations.PointEncoding : Prop :=
  ∀ (c : Curve) (l : Nat) (tag : Byte) (xs ys : Bytes), xs.length = l → ys.length = l →
    let s := tag :: (xs ++ ys)
    (tag = 0x00 → decodePoint c l s = .ok .infinity) ∧
    (tag ≠ 0x00 → tag ≠ 0x04 → decodePoint c l s = .error .point) ∧
    (tag = 0x04 → ¬ (beNat xs < c.p ∧ beNat ys < c.p) → decodePoint c l s = .error .range) ∧
    (tag = 0x04 → beNat xs < c.p → beNat ys < c.p → decodePoint c l s = .ok (.affine (beNat xs) (beNat ys)) ∧
      encodePoint l (.affine (beNat xs) (beNat ys)) = s) ∧
    encodePoint l .infinity = List.replicate (1 + 2 * l) 0

/-- R183, R184: the value of a sum and of a double over any modulus, NOINV exactly where the inverse the formula needs
is missing; and, over a prime field, adding two points of the curve gives a reduced point of the curve. -/
def Obligations.PointAdditionFollowsItsFormulas : Prop :=
  (∀ (c : Curve) (q : Point), ecAdd c .infinity q = .ok q ∧ ecAdd c q .infinity = .ok q) ∧
  (∀ c : Curve, ecDbl c .infinity = .ok .infinity ∧ ∀ x, ecDbl c (.affine x 0) = .ok .infinity) ∧
  (∀ (c : Curve) (x1 y1 x2 y2 : Nat), 3 ≤ c.p → x1 < c.p → y1 < c.p → x2 < c.p → y2 < c.p →
    let formula := fun (num den : Int) (res : Except ErrCode Point) =>
      (Int.gcd den c.p ≠ 1 → res = .error .noInv) ∧
      (Int.gcd den c.p = 1 → ∃ lam x3 y3 : Nat, res = .ok (.affine x3 y3) ∧ x3 < c.p ∧ y3 < c.p ∧
        (lam * den - num) % c.p = 0 ∧
        (((lam : Int) ^ 2 - x1 - x2) - x3) % c.p = 0 ∧
        (((lam : Int) * ((x1 : Int) - x3) - y1) - y3) % c.p = 0)
    (x1 = x2 → (y1 + y2) % c.p = 0 → ecAdd c (.affine x1 y1) (.affine x2 y2) = .ok .infinity) ∧
    (x1 = x2 → (y1 + y2) % c.p ≠ 0 → ecAdd c (.affine x1 y1) (.affine x2 y2) = ecDbl c (.affine x1 y1)) ∧
    (x1 = x2 → y1 ≠ 0 → formula (3 * (x1 : Int) ^ 2 + c.a) (2 * y1) (ecDbl c (.affine x1 y1))) ∧
    (x1 ≠ x2 → formula ((y2 : Int) - y1) ((x2 : Int) - x1) (ecAdd c (.affine x1 y1) (.affine x2 y2)))) ∧
  ∀ (c : Curve) (p q : Point), Nat.Prime c.p → 3 ≤ c.p → p.reduced c → q.reduced c → p.valid c = true →
    q.valid c = true → ∃ r, ecAdd c p q = .ok r ∧ r.reduced c ∧ r.valid c = true

/-- R180, R185, R186: EC_ADD, its errors in order. -/
def Obligations.EcAddCommand : Prop :=
  ∀ (s : State) (v : Bool),
    let L := s.ecLen
    let inside := s.inRange (s.argN 0) (3 * L) ∧ s.inRange (s.argN 2) (1 + 2 * L) ∧ s.inRange (s.argN 3) (1 + 2 * L) ∧
      s.inRange (s.argN 4) (1 + 2 * L)
    let reduced := s.curve.a < s.curve.p ∧ s.curve.b < s.curve.p
    (¬ s.legalLen L → Fails (.ecAdd v) s .len) ∧
    (s.legalLen L → ¬ inside → Fails (.ecAdd v) s .addr) ∧
    (s.legalLen L → inside → s.curve.p < 3 → Fails (.ecAdd v) s .modulus) ∧
    (s.legalLen L → inside → 3 ≤ s.curve.p → ¬ reduced → Fails (.ecAdd v) s .range) ∧
    (s.legalLen L → inside → 3 ≤ s.curve.p → reduced →
      (∀ e, s.point 2 = .error e → Fails (.ecAdd v) s e) ∧
      (∀ p e, s.point 2 = .ok p → s.point 3 = .error e → Fails (.ecAdd v) s e) ∧
      (∀ p q, s.point 2 = .ok p → s.point 3 = .ok q →
        if v = true ∧ (p.valid s.curve && q.valid s.curve) = false then Fails (.ecAdd v) s .point
        else
          (∀ e, ecAdd s.curve p q = .error e → Fails (.ecAdd v) s e) ∧
          (∀ r, ecAdd s.curve p q = .ok r →
            if v = true ∧ r.valid s.curve = false then Fails (.ecAdd v) s .point
            else Stores (.ecAdd v) s (s.argN 4) (encodePoint L r))))

/-- R180, R185, R187: EC_DBL, its errors in order; arg[3] is ignored. -/
def Obligations.EcDblCommand : Prop :=
  ∀ (s : State) (v : Bool),
    let L := s.ecLen
    let inside := s.inRange (s.argN 0) (3 * L) ∧ s.inRange (s.argN 2) (1 + 2 * L) ∧ s.inRange (s.argN 4) (1 + 2 * L)
    let reduced := s.curve.a < s.curve.p ∧ s.curve.b < s.curve.p
    (¬ s.legalLen L → Fails (.ecDbl v) s .len) ∧
    (s.legalLen L → ¬ inside → Fails (.ecDbl v) s .addr) ∧
    (s.legalLen L → inside → s.curve.p < 3 → Fails (.ecDbl v) s .modulus) ∧
    (s.legalLen L → inside → 3 ≤ s.curve.p → ¬ reduced → Fails (.ecDbl v) s .range) ∧
    (s.legalLen L → inside → 3 ≤ s.curve.p → reduced →
      (∀ e, s.point 2 = .error e → Fails (.ecDbl v) s e) ∧
      (∀ p, s.point 2 = .ok p →
        if v = true ∧ p.valid s.curve = false then Fails (.ecDbl v) s .point
        else
          (∀ e, ecDbl s.curve p = .error e → Fails (.ecDbl v) s e) ∧
          (∀ r, ecDbl s.curve p = .ok r →
            if v = true ∧ r.valid s.curve = false then Fails (.ecDbl v) s .point
            else Stores (.ecDbl v) s (s.argN 4) (encodePoint L r))))

/-- R182, R185, R188: EC_CHECK gives 1 exactly for an affine point with reduced coordinates on the curve, and writes
nothing. -/
def Obligations.EcCheckCommand : Prop :=
  ∀ s : State,
    let L := s.ecLen
    let inside := s.inRange (s.argN 0) (3 * L) ∧ s.inRange (s.argN 2) (1 + 2 * L)
    let reduced := s.curve.a < s.curve.p ∧ s.curve.b < s.curve.p
    let x := beNat (s.memRead (s.argN 2 + 1) L)
    let y := beNat (s.memRead (s.argN 2 + 1 + L) L)
    (¬ s.legalLen L → Fails .ecCheck s .len) ∧
    (s.legalLen L → ¬ inside → Fails .ecCheck s .addr) ∧
    (s.legalLen L → inside → s.curve.p < 3 → Fails .ecCheck s .modulus) ∧
    (s.legalLen L → inside → 3 ≤ s.curve.p → ¬ reduced → Fails .ecCheck s .range) ∧
    (s.legalLen L → inside → 3 ≤ s.curve.p → reduced → ∃ b : Bool, exec .ecCheck s = .next (s.ended b) ∧
      (b = true ↔ s.readByte (s.argN 2) = 0x04 ∧ x < s.curve.p ∧ y < s.curve.p ∧
        ((y : Int) ^ 2 - ((x : Int) ^ 3 + s.curve.a * x + s.curve.b)) % s.curve.p = 0))

/-! ### Montgomery -/

/-- R200 to R203, R205: X25519, the fixed scalar and u given as numbers. -/
def Obligations.X25519Command : Prop :=
  ∀ s : State,
    (¬ (s.inRange (s.argN 0) 32 ∧ s.inRange (s.argN 1) 32 ∧ s.inRange (s.argN 2) 32) → Fails .x25519 s .addr) ∧
    (s.inRange (s.argN 0) 32 → s.inRange (s.argN 1) 32 → s.inRange (s.argN 2) 32 →
      let k := 2 ^ 254 + 8 * (leNat (s.memRead (s.argN 0) 32) % 2 ^ 254 / 8)
      let u := leNat (s.memRead (s.argN 1) 32) % 2 ^ 255 % (2 ^ 255 - 19)
      Stores .x25519 s (s.argN 2) (leBytes 32 (ladder k u (2 ^ 255 - 19) 121665 255)))

/-- R200 to R203, R206: X448, the fixed scalar and u given as numbers; no bit of u is cleared (C1). -/
def Obligations.X448Command : Prop :=
  ∀ s : State,
    (¬ (s.inRange (s.argN 0) 56 ∧ s.inRange (s.argN 1) 56 ∧ s.inRange (s.argN 2) 56) → Fails .x448 s .addr) ∧
    (s.inRange (s.argN 0) 56 → s.inRange (s.argN 1) 56 → s.inRange (s.argN 2) 56 →
      let k := 2 ^ 447 + 4 * (leNat (s.memRead (s.argN 0) 56) % 2 ^ 447 / 4)
      let u := leNat (s.memRead (s.argN 1) 56) % (2 ^ 448 - 2 ^ 224 - 1)
      Stores .x448 s (s.argN 2) (leBytes 56 (ladder k u (2 ^ 448 - 2 ^ 224 - 1) 39081 448)))

/-- R204: the ladder, iteration by iteration over Z_p: v n is (x2, z2, x3, z3) after n iterations and w its swapped
form. R205, R206: u = 0 gives 0 for every scalar. -/
def Obligations.LadderFollowsItsSteps : Prop :=
  (∀ k p a24 bits : Nat, 3 ≤ p → p % 2 = 1 → 1 ≤ bits → ladder k 0 p a24 bits = 0) ∧
  ∀ k u p a24 bits : Nat, 3 ≤ p → p ≤ 2 ^ bits → ladder k u p a24 bits < p ∧
    ∃ x2 z2 x3 z3 : Nat → ZMod p, x2 0 = 1 ∧ z2 0 = 0 ∧ x3 0 = u ∧ z3 0 = 1 ∧
      (∀ n, n < bits →
        let kt := k.testBit (bits - 1 - n)
        let swap := (if n = 0 then false else k.testBit (bits - n)) ^^ kt
        let a := if swap then x3 n + z3 n else x2 n + z2 n
        let b := if swap then x3 n - z3 n else x2 n - z2 n
        let c := if swap then x2 n + z2 n else x3 n + z3 n
        let d := if swap then x2 n - z2 n else x3 n - z3 n
        let e := a ^ 2 - b ^ 2
        x3 (n + 1) = (d * a + c * b) ^ 2 ∧ z3 (n + 1) = u * (d * a - c * b) ^ 2 ∧
          x2 (n + 1) = a ^ 2 * b ^ 2 ∧ z2 (n + 1) = e * (a ^ 2 + a24 * e)) ∧
      (ladder k u p a24 bits : ZMod p) =
        if k.testBit 0 then x3 bits * z3 bits ^ (p - 2) else x2 bits * z2 bits ^ (p - 2)

/-! ### Modular exponentiation -/

/-- R220, R221, R222: MODEXP stores b^e mod m, with 0^0 = 1. -/
def Obligations.ModexpGivesPower : Prop :=
  ∀ s : State,
    let L := s.argN 4
    let inside := s.inRange (s.argN 0) L ∧ s.inRange (s.argN 1) L ∧ s.inRange (s.argN 2) L ∧ s.inRange (s.argN 3) L
    let b := beNat (s.memRead (s.argN 0) L)
    let e := beNat (s.memRead (s.argN 1) L)
    let m := beNat (s.memRead (s.argN 2) L)
    (¬ s.legalLen L → Fails .modexp s .len) ∧
    (s.legalLen L → ¬ inside → Fails .modexp s .addr) ∧
    (s.legalLen L → inside → m = 0 → Fails .modexp s .modulus) ∧
    (s.legalLen L → inside → m ≠ 0 → ∃ out : Bytes, out.length = L ∧ beNat out = b ^ e % m ∧
      Stores .modexp s (s.argN 3) out)

/-! ### BER -/

/-- R232, R233, R234, R235: BER_TAG. -/
def Obligations.BerTagCommand : Prop :=
  ∀ s : State,
    (¬ s.legalWindow → Fails .berTag s .addr) ∧
    (s.legalWindow → s.berHeader = none → exec .berTag s = .next (s.ended false)) ∧
    (s.legalWindow → ∀ h, s.berHeader = some h → ∃ t, exec .berTag s = .next t ∧
      t = { s.ended true with res := t.res, berPos := BitVec.ofNat 32 h.cpos } ∧
      t.res.res0.toNat = h.b0.toNat + h.cls.toNat * 2 ^ 8 + h.cons.toNat * 2 ^ 10 + h.indef.toNat * 2 ^ 11 ∧
      t.res.res1 = BitVec.ofNat 32 h.num ∧ t.res.res2 = BitVec.ofNat 32 h.len ∧ t.res.res3 = BitVec.ofNat 32 h.cpos)

/-- R236: BER_SEQ is BER_TAG for the identifier octet 0x30 and a negative result for every other. -/
def Obligations.BerSeqCommand : Prop :=
  ∀ s : State,
    (¬ s.legalWindow → Fails .berSeq s .addr) ∧
    (s.legalWindow → (∀ h, s.berHeader = some h → h.b0 ≠ 0x30) → exec .berSeq s = .next (s.ended false)) ∧
    (s.legalWindow → ∀ h, s.berHeader = some h → h.b0 = 0x30 → ∃ t, exec .berSeq s = .next t ∧
      t = { s.ended true with res := t.res, berPos := BitVec.ofNat 32 h.cpos } ∧
      t.res.res0.toNat = 0x430 + h.indef.toNat * 2 ^ 11 ∧
      t.res.res1 = BitVec.ofNat 32 h.num ∧ t.res.res2 = BitVec.ofNat 32 h.len ∧ t.res.res3 = BitVec.ofNat 32 h.cpos)

/-- R237: BER_INT stores the content as an L-byte two's-complement integer of the same value. -/
def Obligations.BerIntCommand : Prop :=
  ∀ s : State,
    let L := s.argN 1
    let accepts := fun h : BerHeader => h.b0 = 0x02 ∧ h.indef = false ∧ h.len ≤ L
    (¬ s.legalLen L → Fails .berInt s .len) ∧
    (s.legalLen L → ¬ (s.inRange (s.argN 0) L ∧ s.legalWindow) → Fails .berInt s .addr) ∧
    (s.legalLen L → s.inRange (s.argN 0) L → s.legalWindow → (∀ h, s.berHeader = some h → ¬ accepts h) →
      exec .berInt s = .next (s.ended false)) ∧
    (s.legalLen L → s.inRange (s.argN 0) L → s.legalWindow → ∀ h, s.berHeader = some h → accepts h →
      ∃ t, exec .berInt s = .next t ∧
        t = { s.ended true with
              res := t.res, berPos := BitVec.ofNat 32 (h.cpos + h.len), dmem := t.dmem } ∧
        t.res.res0.toNat = 0x02 ∧ t.res.res1 = BitVec.ofNat 32 h.num ∧ t.res.res2 = BitVec.ofNat 32 h.len ∧
        t.res.res3 = BitVec.ofNat 32 h.cpos ∧ SameDmemOutside s t (s.argN 0) L ∧
        signedBe (t.memRead (s.argN 0) L) = signedBe (s.memRead h.cpos h.len))

/-- R231: the header decoder accepts exactly the windows that begin with tag octets and length octets, in any of their
forms, minimal or not, for a tag number below 2^32, and that hold the content of a definite length; it gives back what
they write and the address of the content. The second part names its FAIL cases one by one. -/
def Obligations.BerHeaderReadsEveryEncoding : Prop :=
  (∀ (window : Bytes) (last : Nat) (h : BerHeader), berHeader window last = some h ↔
    ∃ tag len content, window = tag ++ len ++ content ∧ TagWritten tag h.b0 h.num ∧ h.num < 2 ^ 32 ∧
      LengthWritten len h.len h.indef ∧ (h.indef = false → h.len ≤ content.length) ∧ h.cpos = last - content.length) ∧
  (∀ h : BerHeader, h.cls.toNat = h.b0.toNat / 64 ∧ (h.cons = true ↔ h.b0.toNat / 32 % 2 = 1)) ∧
  (∀ last, berHeader [] last = none) ∧
  (∀ (b0 : Byte) (ds : List (BitVec 7)) (last : Nat), b0.toNat % 32 = 0x1F →
    berHeader (b0 :: moreDigits ds) last = none) ∧
  ∀ (tag : Bytes) (b0 : Byte) (num last : Nat), TagWritten tag b0 num →
    berHeader tag last = none ∧
    (2 ^ 32 ≤ num → ∀ rest, berHeader (tag ++ rest) last = none) ∧
    (∀ (l0 : Byte) (rest : Bytes), 0x84 < l0.toNat → berHeader (tag ++ l0 :: rest) last = none) ∧
    (∀ (k : Nat) (rest : Bytes), k ≤ 4 → rest.length < k →
      berHeader (tag ++ BitVec.ofNat 8 (0x80 + k) :: rest) last = none) ∧
    ∀ (octets content : Bytes) (len : Nat), LengthWritten octets len false → content.length < len →
      berHeader (tag ++ octets ++ content) last = none

/-- R239: cutting the window anywhere before the end of a definite-length value makes all three BER commands give a
negative result. -/
def Obligations.BerTruncationIsNegative : Prop :=
  ∀ (s : State) (h : BerHeader) (e : Word), s.legalWindow → s.berHeader = some h → h.indef = false →
    s.berPos.toNat ≤ e.toNat → e.toNat < h.cpos + h.len →
    let s' := { s with berEnd := e }
    exec .berTag s' = .next (s'.ended false) ∧ exec .berSeq s' = .next (s'.ended false) ∧
      (s.legalLen (s.argN 1) → s.inRange (s.argN 0) (s.argN 1) → exec .berInt s' = .next (s'.ended false))

/-- R230, R239: no BER command reads outside [BER_POS, BER_END): two states that agree on the window's bytes get the
same outcome, results and cursor. -/
def Obligations.BerReadsOnlyItsWindow : Prop :=
  ∀ (s : State) (m : Memory) (i : Instr), (i = .berTag ∨ i = .berSeq ∨ i = .berInt) →
    (∀ x, s.berPos.toNat ≤ x → x < s.berEnd.toNat → { s with dmem := m }.readByte x = s.readByte x) →
    ∃ t t', exec i s = .next t ∧ exec i { s with dmem := m } = .next t' ∧ t'.result = t.result ∧
      t'.errcode = t.errcode ∧ t'.res = t.res ∧ t'.berPos = t.berPos ∧
      (t.result = true → i = .berInt → t'.memRead (s.argN 0) (s.argN 1) = t.memRead (s.argN 0) (s.argN 1))
end

