-- ==== Sys2Proof/Laws/Memory.lean ====
section
/-! SUPPORT. The laws of DMEM: what a read gives after a MemWrite, and that a MemWrite keeps the canonical form. -/

namespace Sys2Proof.Machine

theorem Memory.read?_append (m m' : Memory) (x : Nat) :
    Memory.read? (m ++ m') x = (Memory.read? m x).or (Memory.read? m' x) := by
  simp only [Memory.read?]
  induction m with
  | nil => simp
  | cons c m ih =>
    obtain ⟨a, b⟩ := c
    by_cases h : x = a
    · subst h; simp [List.lookup]
    · have : (x == a) = false := by simp [h]
      simp [List.lookup, this, ih]

/-- A filter on addresses keeps a cell's value or hides it. -/
theorem Memory.read?_filter (m : Memory) (p : Nat → Bool) (x : Nat) :
    Memory.read? (m.filter (fun c => p c.1)) x = if p x then Memory.read? m x else none := by
  simp only [Memory.read?]
  induction m with
  | nil => simp
  | cons c m ih =>
    obtain ⟨a, b⟩ := c
    by_cases h : x = a
    · subst h
      by_cases hp : p x
      · simp [hp]
      · rw [List.filter_cons_of_neg (by simpa using hp), ih]; simp [hp]
    · have hx : (x == a) = false := by simp [h]
      by_cases hp : p a
      · simp [List.filter_cons_of_pos, hp, List.lookup, hx, ih]
      · rw [List.filter_cons_of_neg (by simpa using hp), ih]; simp [List.lookup, hx]

theorem Memory.read?_cells (a : Nat) (bs : Bytes) (x : Nat) :
    Memory.read? (Memory.cells a bs) x = if a ≤ x then bs[x - a]? else none := by
  induction bs generalizing a with
  | nil => simp [Memory.cells, Memory.read?]
  | cons b bs ih =>
    by_cases h : x = a
    · subst h; simp [Memory.cells, Memory.read?]
    · have hx : (x == a) = false := by simp [h]
      have : Memory.read? (Memory.cells a (b :: bs)) x = Memory.read? (Memory.cells (a + 1) bs) x := by
        simp [Memory.cells, Memory.read?, List.lookup, hx]
      rw [this, ih]
      by_cases h1 : a + 1 ≤ x
      · have h2 : x - a = (x - (a + 1)) + 1 := by omega
        simp [h1, show a ≤ x by omega, h2]
      · simp [h1, show ¬ a ≤ x by omega]

/-- MemWrite leaves every byte outside its range alone (R71). -/
theorem Memory.read?_write_outside (m : Memory) (a : Nat) (bs : Bytes) (x : Nat) (h : x < a ∨ a + bs.length ≤ x) :
    (m.write a bs).read? x = m.read? x := by
  unfold Memory.write
  rw [Memory.read?_append, Memory.read?_append, Memory.read?_filter m (fun k => decide (k < a)),
    Memory.read?_filter m (fun k => decide (a + bs.length ≤ k)), Memory.read?_cells]
  rcases h with h | h
  · simp [h, show ¬ a ≤ x by omega, show ¬ a + bs.length ≤ x by omega]
  · simp [h, show a ≤ x by omega, show ¬ x < a by omega, List.getElem?_eq_none (show bs.length ≤ x - a by omega)]

/-- MemWrite sets byte a + k to s[k] (R71). -/
theorem Memory.read?_write_inside (m : Memory) (a : Nat) (bs : Bytes) (k : Nat) (h : k < bs.length) :
    (m.write a bs).read? (a + k) = some bs[k] := by
  unfold Memory.write
  rw [Memory.read?_append, Memory.read?_append, Memory.read?_filter m (fun k => decide (k < a)),
    Memory.read?_filter m (fun k => decide (a + bs.length ≤ k)), Memory.read?_cells]
  simp [List.getElem?_eq_getElem h]

theorem Memory.mem_cells {a : Nat} {bs : Bytes} {c : Host.Cell} (h : c ∈ Memory.cells a bs) :
    a ≤ c.1 ∧ c.1 < a + bs.length := by
  induction bs generalizing a with
  | nil => simp [Memory.cells] at h
  | cons b bs ih =>
    simp only [Memory.cells, List.mem_cons] at h
    rcases h with rfl | h
    · simp
    · have := ih h; simp; omega

theorem Memory.wf_cells (a : Nat) (bs : Bytes) : Memory.wf (Memory.cells a bs) := by
  induction bs generalizing a with
  | nil => simp [Memory.cells, Memory.wf]
  | cons b bs ih =>
    refine List.Pairwise.cons ?_ (ih (a + 1))
    intro c hc
    have := Memory.mem_cells hc
    omega

/-- MemWrite keeps the canonical form. -/
theorem Memory.wf_write {m : Memory} (hm : m.wf) (a : Nat) (bs : Bytes) : (m.write a bs).wf := by
  unfold Memory.write Memory.wf
  refine List.pairwise_append.2 ⟨List.pairwise_append.2 ⟨hm.filter _, Memory.wf_cells a bs, ?_⟩, hm.filter _, ?_⟩
  · intro c hc d hd
    have h1 := (List.mem_filter.1 hc).2
    have h2 := Memory.mem_cells hd
    simp at h1; omega
  · intro c hc d hd
    have h2 := (List.mem_filter.1 hd).2
    rcases List.mem_append.1 hc with hc | hc
    · have h1 := (List.mem_filter.1 hc).2
      simp at h1 h2; omega
    · have h1 := Memory.mem_cells hc
      simp at h2; omega

/-- MemWrite inside DMEM keeps every cell inside DMEM. -/
theorem Memory.below_write {m : Memory} {n : Nat} (hm : m.below n) (a : Nat) (bs : Bytes) (h : a + bs.length ≤ n) :
    (m.write a bs).below n := by
  intro c hc
  unfold Memory.write at hc
  rcases List.mem_append.1 hc with hc | hc
  · rcases List.mem_append.1 hc with hc | hc
    · exact hm c (List.mem_filter.1 hc).1
    · have := Memory.mem_cells hc; omega
  · exact hm c (List.mem_filter.1 hc).1

@[simp] theorem State.memRead_length (s : State) (a n : Nat) : (s.memRead a n).length = n := by
  simp [State.memRead]

theorem State.memRead_getElem (s : State) (a n k : Nat) (h : k < (s.memRead a n).length) :
    (s.memRead a n)[k] = s.readByte (a + k) := by
  simp [State.memRead]

/-- Reading back the bytes a MemWrite has just written (R71). -/
theorem State.memRead_of_write (s t : State) (a : Nat) (bs : Bytes) (h : t.dmem = s.dmem.write a bs) :
    t.memRead a bs.length = bs := by
  apply List.ext_getElem
  · simp
  · intro k h1 h2
    rw [State.memRead_getElem, State.readByte, h, Memory.read?_write_inside s.dmem a bs k h2]
    rfl

/-- A byte outside the range a MemWrite has just written (R71). -/
theorem State.readByte_of_write_outside (s t : State) (a : Nat) (bs : Bytes) (h : t.dmem = s.dmem.write a bs)
    (he : t.epoch = s.epoch) (x : Nat) (hx : x < a ∨ a + bs.length ≤ x) : t.readByte x = s.readByte x := by
  rw [State.readByte, h, Memory.read?_write_outside _ _ _ _ hx, State.readByte, State.unlistedByte,
    State.unlistedByte, he]

end Sys2Proof.Machine
end

