-- ==== Sys2Proof/Laws/Operands.lean ====
section
/-! SUPPORT. What the checks every rule begins with can do, and the lengths of the byte strings rules write. -/

namespace Sys2Proof.Machine

@[simp] theorem require_true (c : ErrCode) : require true c = .ok () := rfl

@[simp] theorem require_false (c : ErrCode) : require false c = .error c := rfl

theorem require_eq_ok {b : Bool} {c : ErrCode} {u : Unit} : require b c = .ok u ↔ b = true := by
  cases b <;> simp

theorem require_eq_error {b : Bool} {c d : ErrCode} : require b c = .error d ↔ b = false ∧ c = d := by
  cases b <;> simp

/-- check_range succeeds exactly when the range lies inside DMEM (R72). -/
theorem checkRange_eq_ok {s : State} {a n : Nat} {u : Unit} :
    checkRange s a n = .ok u ↔ a + n ≤ s.params.dmemBytes := by
  simp [checkRange, require_eq_ok]

theorem checkRange_of_le {s : State} {a n : Nat} (h : a + n ≤ s.params.dmemBytes) : checkRange s a n = .ok () :=
  checkRange_eq_ok.2 h

theorem checkRange_of_not_le {s : State} {a n : Nat} (h : ¬ a + n ≤ s.params.dmemBytes) :
    checkRange s a n = .error .addr := by
  simp [checkRange, h]

/-- The length check succeeds exactly for 1 <= L <= LMAX (R180, R220). -/
theorem checkLen_eq_ok {s : State} {l : Nat} {u : Unit} : checkLen s l = .ok u ↔ l ≠ 0 ∧ l ≤ s.params.lmax := by
  simp [checkLen, require_eq_ok]

/-- A rule that begins with a step goes on exactly when the step succeeds. -/
theorem bind_eq_ok {α β : Type} {x : Except ErrCode α} {f : α → Except ErrCode β} {b : β} :
    (x >>= f) = .ok b ↔ ∃ a, x = .ok a ∧ f a = .ok b := by
  cases x <;> simp [bind, Except.bind]

/-- The first failing step of a rule decides its error (R255). -/
theorem bind_eq_error {α β : Type} {x : Except ErrCode α} {f : α → Except ErrCode β} {c : ErrCode} :
    (x >>= f) = .error c ↔ x = .error c ∨ ∃ a, x = .ok a ∧ f a = .error c := by
  cases x <;> simp [bind, Except.bind]

@[simp] theorem leBytes_length (n v : Nat) : (leBytes n v).length = n := by
  induction n generalizing v with
  | zero => rfl
  | succ n ih => simp [leBytes, ih]

@[simp] theorem beBytes_length (n v : Nat) : (beBytes n v).length = n := by simp [beBytes]

@[simp] theorem beBytesInt_length (n : Nat) (v : Int) : (beBytesInt n v).length = n := by simp [beBytesInt]

@[simp] theorem wordBytes_length (w : Word) : (wordBytes w).length = 4 := by simp [wordBytes]

@[simp] theorem blockBytes_length (b : Block) : (blockBytes b).length = 16 := by simp [blockBytes]

@[simp] theorem zeroBytes_length (n : Nat) : (zeroBytes n).length = n := by simp [zeroBytes]

@[simp] theorem beNat_nil : beNat [] = 0 := rfl

theorem beNat_append_singleton (s : Bytes) (b : Byte) : beNat (s ++ [b]) = beNat s * 256 + b.toNat := by
  simp [beNat, List.foldl_append]

theorem leNat_cons (b : Byte) (s : Bytes) : leNat (b :: s) = b.toNat + 256 * leNat s := by
  simp [leNat, beNat_append_singleton]; omega

/-- LE(le_n(v)) = v mod 2^(8n) (R7). -/
theorem leNat_leBytes (n v : Nat) : leNat (leBytes n v) = v % 256 ^ n := by
  induction n generalizing v with
  | zero => simp [leBytes, leNat, Nat.mod_one]
  | succ n ih =>
    rw [leBytes, leNat_cons, ih, pow_succ, mul_comm (256 ^ n), Nat.mod_mul]
    simp

/-- BE(be_n(v)) = v mod 2^(8n) (R7). -/
theorem beNat_beBytes (n v : Nat) : beNat (beBytes n v) = v % 256 ^ n := by
  rw [← leNat_leBytes]; rfl

theorem leNat_lt (s : Bytes) : leNat s < 256 ^ s.length := by
  induction s with
  | nil => simp [leNat]
  | cons b s ih =>
    have := b.isLt
    rw [leNat_cons, List.length_cons, pow_succ]
    omega

theorem beNat_lt (s : Bytes) : beNat s < 256 ^ s.length := by
  have := leNat_lt s.reverse
  simpa [leNat] using this

/-- le_n(LE(s)) = s for an n-byte string (R7). -/
theorem leBytes_leNat (s : Bytes) : leBytes s.length (leNat s) = s := by
  induction s with
  | nil => rfl
  | cons b s ih =>
    have hb := b.isLt
    have h1 : (b.toNat + 256 * leNat s) / 256 = leNat s := by omega
    have h2 : BitVec.ofNat 8 (b.toNat + 256 * leNat s) = b := by
      apply BitVec.eq_of_toNat_eq; simp; omega
    rw [leNat_cons, List.length_cons, leBytes, h1, h2, ih]

end Sys2Proof.Machine
end

