-- ==== Sys2Proof/Laws/PerInstr.lean ====
section
/-! SUPPORT. Statements made once per command: the family Encoding, about the fields of a command's word (30_encoding.md
R90, R93). -/

namespace Sys2Proof.Laws.Encoding

/-- The word of a command holds its OP in bits 7:0, its V in bit 8 and zeros above (R90). -/
def Statement (i : Instr) : Prop :=
  i.wellFormed = true ∧ (encode i).extractLsb' 0 8 = i.opcode ∧ (encode i).getLsbD 8 = i.vBit ∧ encode i >>> 9 = 0

theorem nop : Statement .nop := ⟨by decide, by decide, by decide, by decide⟩

theorem zeroize : Statement .zeroize := ⟨by decide, by decide, by decide, by decide⟩

theorem aesKey : Statement .aesKey := ⟨by decide, by decide, by decide, by decide⟩

theorem aesEnc : Statement .aesEnc := ⟨by decide, by decide, by decide, by decide⟩

theorem aesDec : Statement .aesDec := ⟨by decide, by decide, by decide, by decide⟩

theorem bfKey : Statement .bfKey := ⟨by decide, by decide, by decide, by decide⟩

theorem bfEnc : Statement .bfEnc := ⟨by decide, by decide, by decide, by decide⟩

theorem bfDec : Statement .bfDec := ⟨by decide, by decide, by decide, by decide⟩

theorem ghSetH : Statement .ghSetH := ⟨by decide, by decide, by decide, by decide⟩

theorem ghDeriveH : Statement .ghDeriveH := ⟨by decide, by decide, by decide, by decide⟩

theorem ghClear : Statement .ghClear := ⟨by decide, by decide, by decide, by decide⟩

theorem ghLoadX : Statement .ghLoadX := ⟨by decide, by decide, by decide, by decide⟩

theorem ghUpdate : Statement .ghUpdate := ⟨by decide, by decide, by decide, by decide⟩

theorem ghStoreX : Statement .ghStoreX := ⟨by decide, by decide, by decide, by decide⟩

theorem gfMul : Statement .gfMul := ⟨by decide, by decide, by decide, by decide⟩

theorem ctCompare : Statement .ctCompare := ⟨by decide, by decide, by decide, by decide⟩

theorem ecAdd (v : Bool) : Statement (.ecAdd v) := by cases v <;> exact ⟨by decide, by decide, by decide, by decide⟩

theorem ecDbl (v : Bool) : Statement (.ecDbl v) := by cases v <;> exact ⟨by decide, by decide, by decide, by decide⟩

theorem ecCheck : Statement .ecCheck := ⟨by decide, by decide, by decide, by decide⟩

theorem x25519 : Statement .x25519 := ⟨by decide, by decide, by decide, by decide⟩

theorem x448 : Statement .x448 := ⟨by decide, by decide, by decide, by decide⟩

theorem modexp : Statement .modexp := ⟨by decide, by decide, by decide, by decide⟩

theorem berTag : Statement .berTag := ⟨by decide, by decide, by decide, by decide⟩

theorem berSeq : Statement .berSeq := ⟨by decide, by decide, by decide, by decide⟩

theorem berInt : Statement .berInt := ⟨by decide, by decide, by decide, by decide⟩

end Sys2Proof.Laws.Encoding
end

