-- ==== Sys2Proof/Laws/State.lean ====
section
/-! SUPPORT. One lemma per field per update of State, each true by unfolding, so that no later proof unfolds a record
update. -/

namespace Sys2Proof.Machine

@[simp] theorem State.issue_params (s : State) (w : Word) : (s.issue w).params = s.params := rfl
@[simp] theorem State.issue_irqEn (s : State) (w : Word) : (s.issue w).irqEn = s.irqEn := rfl
@[simp] theorem State.issue_done (s : State) (w : Word) : (s.issue w).done = false := rfl
@[simp] theorem State.issue_result (s : State) (w : Word) : (s.issue w).result = false := rfl
@[simp] theorem State.issue_overrun (s : State) (w : Word) : (s.issue w).overrun = s.overrun := rfl
@[simp] theorem State.issue_accerr (s : State) (w : Word) : (s.issue w).accerr = s.accerr := rfl
@[simp] theorem State.issue_errcode (s : State) (w : Word) : (s.issue w).errcode = none := rfl
@[simp] theorem State.issue_arg (s : State) (w : Word) : (s.issue w).arg = s.arg := rfl
@[simp] theorem State.issue_res (s : State) (w : Word) : (s.issue w).res = s.res := rfl
@[simp] theorem State.issue_berPos (s : State) (w : Word) : (s.issue w).berPos = s.berPos := rfl
@[simp] theorem State.issue_berEnd (s : State) (w : Word) : (s.issue w).berEnd = s.berEnd := rfl
@[simp] theorem State.issue_phase (s : State) (w : Word) : (s.issue w).phase = .running := rfl
@[simp] theorem State.issue_cmdl (s : State) (w : Word) : (s.issue w).cmdl = w := rfl
@[simp] theorem State.issue_argl (s : State) (w : Word) : (s.issue w).argl = s.arg := rfl
@[simp] theorem State.issue_aes (s : State) (w : Word) : (s.issue w).aes = s.aes := rfl
@[simp] theorem State.issue_bf (s : State) (w : Word) : (s.issue w).bf = s.bf := rfl
@[simp] theorem State.issue_gh (s : State) (w : Word) : (s.issue w).gh = s.gh := rfl
@[simp] theorem State.issue_dmem (s : State) (w : Word) : (s.issue w).dmem = s.dmem := rfl
@[simp] theorem State.issue_epoch (s : State) (w : Word) : (s.issue w).epoch = s.epoch := rfl
@[simp] theorem State.issue_draws (s : State) (w : Word) : (s.issue w).draws = s.draws := rfl
@[simp] theorem State.issue_inbox (s : State) (w : Word) : (s.issue w).inbox = s.inbox := rfl
@[simp] theorem State.issue_replies (s : State) (w : Word) : (s.issue w).replies = s.replies := rfl

@[simp] theorem State.finish_params (s : State) (b : Bool) (c : Option ErrCode) : (s.finish b c).params = s.params := rfl
@[simp] theorem State.finish_irqEn (s : State) (b : Bool) (c : Option ErrCode) : (s.finish b c).irqEn = s.irqEn := rfl
@[simp] theorem State.finish_done (s : State) (b : Bool) (c : Option ErrCode) : (s.finish b c).done = true := rfl
@[simp] theorem State.finish_result (s : State) (b : Bool) (c : Option ErrCode) : (s.finish b c).result = b := rfl
@[simp] theorem State.finish_overrun (s : State) (b : Bool) (c : Option ErrCode) : (s.finish b c).overrun = s.overrun := rfl
@[simp] theorem State.finish_accerr (s : State) (b : Bool) (c : Option ErrCode) : (s.finish b c).accerr = s.accerr := rfl
@[simp] theorem State.finish_errcode (s : State) (b : Bool) (c : Option ErrCode) : (s.finish b c).errcode = c := rfl
@[simp] theorem State.finish_arg (s : State) (b : Bool) (c : Option ErrCode) : (s.finish b c).arg = s.arg := rfl
@[simp] theorem State.finish_res (s : State) (b : Bool) (c : Option ErrCode) : (s.finish b c).res = s.res := rfl
@[simp] theorem State.finish_berPos (s : State) (b : Bool) (c : Option ErrCode) : (s.finish b c).berPos = s.berPos := rfl
@[simp] theorem State.finish_berEnd (s : State) (b : Bool) (c : Option ErrCode) : (s.finish b c).berEnd = s.berEnd := rfl
@[simp] theorem State.finish_phase (s : State) (b : Bool) (c : Option ErrCode) : (s.finish b c).phase = .idle := rfl
@[simp] theorem State.finish_cmdl (s : State) (b : Bool) (c : Option ErrCode) : (s.finish b c).cmdl = s.cmdl := rfl
@[simp] theorem State.finish_argl (s : State) (b : Bool) (c : Option ErrCode) : (s.finish b c).argl = s.argl := rfl
@[simp] theorem State.finish_aes (s : State) (b : Bool) (c : Option ErrCode) : (s.finish b c).aes = s.aes := rfl
@[simp] theorem State.finish_bf (s : State) (b : Bool) (c : Option ErrCode) : (s.finish b c).bf = s.bf := rfl
@[simp] theorem State.finish_gh (s : State) (b : Bool) (c : Option ErrCode) : (s.finish b c).gh = s.gh := rfl
@[simp] theorem State.finish_dmem (s : State) (b : Bool) (c : Option ErrCode) : (s.finish b c).dmem = s.dmem := rfl
@[simp] theorem State.finish_epoch (s : State) (b : Bool) (c : Option ErrCode) : (s.finish b c).epoch = s.epoch := rfl
@[simp] theorem State.finish_draws (s : State) (b : Bool) (c : Option ErrCode) : (s.finish b c).draws = s.draws := rfl
@[simp] theorem State.finish_inbox (s : State) (b : Bool) (c : Option ErrCode) : (s.finish b c).inbox = s.inbox := rfl
@[simp] theorem State.finish_replies (s : State) (b : Bool) (c : Option ErrCode) : (s.finish b c).replies = s.replies := rfl

@[simp] theorem State.completeError_params (s : State) (c : ErrCode) : (s.completeError c).params = s.params := rfl
@[simp] theorem State.completeError_irqEn (s : State) (c : ErrCode) : (s.completeError c).irqEn = s.irqEn := rfl
@[simp] theorem State.completeError_done (s : State) (c : ErrCode) : (s.completeError c).done = true := rfl
@[simp] theorem State.completeError_result (s : State) (c : ErrCode) : (s.completeError c).result = false := rfl
@[simp] theorem State.completeError_overrun (s : State) (c : ErrCode) : (s.completeError c).overrun = s.overrun := rfl
@[simp] theorem State.completeError_accerr (s : State) (c : ErrCode) : (s.completeError c).accerr = s.accerr := rfl
@[simp] theorem State.completeError_errcode (s : State) (c : ErrCode) : (s.completeError c).errcode = some c := rfl
@[simp] theorem State.completeError_arg (s : State) (c : ErrCode) : (s.completeError c).arg = s.arg := rfl
@[simp] theorem State.completeError_res (s : State) (c : ErrCode) : (s.completeError c).res = s.res := rfl
@[simp] theorem State.completeError_berPos (s : State) (c : ErrCode) : (s.completeError c).berPos = s.berPos := rfl
@[simp] theorem State.completeError_berEnd (s : State) (c : ErrCode) : (s.completeError c).berEnd = s.berEnd := rfl
@[simp] theorem State.completeError_phase (s : State) (c : ErrCode) : (s.completeError c).phase = .idle := rfl
@[simp] theorem State.completeError_cmdl (s : State) (c : ErrCode) : (s.completeError c).cmdl = s.cmdl := rfl
@[simp] theorem State.completeError_argl (s : State) (c : ErrCode) : (s.completeError c).argl = s.argl := rfl
@[simp] theorem State.completeError_aes (s : State) (c : ErrCode) : (s.completeError c).aes = s.aes := rfl
@[simp] theorem State.completeError_bf (s : State) (c : ErrCode) : (s.completeError c).bf = s.bf := rfl
@[simp] theorem State.completeError_gh (s : State) (c : ErrCode) : (s.completeError c).gh = s.gh := rfl
@[simp] theorem State.completeError_dmem (s : State) (c : ErrCode) : (s.completeError c).dmem = s.dmem := rfl
@[simp] theorem State.completeError_epoch (s : State) (c : ErrCode) : (s.completeError c).epoch = s.epoch := rfl
@[simp] theorem State.completeError_draws (s : State) (c : ErrCode) : (s.completeError c).draws = s.draws := rfl
@[simp] theorem State.completeError_inbox (s : State) (c : ErrCode) : (s.completeError c).inbox = s.inbox := rfl
@[simp] theorem State.completeError_replies (s : State) (c : ErrCode) : (s.completeError c).replies = s.replies := rfl

@[simp] theorem State.completeOk_params (s : State) (e : Effect) : (s.completeOk e).params = s.params := rfl
@[simp] theorem State.completeOk_irqEn (s : State) (e : Effect) : (s.completeOk e).irqEn = s.irqEn := rfl
@[simp] theorem State.completeOk_done (s : State) (e : Effect) : (s.completeOk e).done = true := rfl
@[simp] theorem State.completeOk_result (s : State) (e : Effect) : (s.completeOk e).result = e.result := rfl
@[simp] theorem State.completeOk_overrun (s : State) (e : Effect) : (s.completeOk e).overrun = s.overrun := rfl
@[simp] theorem State.completeOk_accerr (s : State) (e : Effect) : (s.completeOk e).accerr = s.accerr := rfl
@[simp] theorem State.completeOk_errcode (s : State) (e : Effect) : (s.completeOk e).errcode = none := rfl
@[simp] theorem State.completeOk_arg (s : State) (e : Effect) : (s.completeOk e).arg = s.arg := rfl
@[simp] theorem State.completeOk_res (s : State) (e : Effect) : (s.completeOk e).res = e.res.getD s.res := rfl
@[simp] theorem State.completeOk_berPos (s : State) (e : Effect) : (s.completeOk e).berPos = e.berPos.getD s.berPos := rfl
@[simp] theorem State.completeOk_berEnd (s : State) (e : Effect) : (s.completeOk e).berEnd = s.berEnd := rfl
@[simp] theorem State.completeOk_phase (s : State) (e : Effect) : (s.completeOk e).phase = .idle := rfl
@[simp] theorem State.completeOk_cmdl (s : State) (e : Effect) : (s.completeOk e).cmdl = s.cmdl := rfl
@[simp] theorem State.completeOk_argl (s : State) (e : Effect) : (s.completeOk e).argl = s.argl := rfl
@[simp] theorem State.completeOk_aes (s : State) (e : Effect) : (s.completeOk e).aes = e.aes.getD s.aes := rfl
@[simp] theorem State.completeOk_bf (s : State) (e : Effect) : (s.completeOk e).bf = e.bf.getD s.bf := rfl
@[simp] theorem State.completeOk_gh (s : State) (e : Effect) : (s.completeOk e).gh = e.gh.getD s.gh := rfl
@[simp] theorem State.completeOk_dmem (s : State) (e : Effect) : (s.completeOk e).dmem = (e.apply s).dmem := rfl
@[simp] theorem State.completeOk_epoch (s : State) (e : Effect) : (s.completeOk e).epoch = s.epoch := rfl
@[simp] theorem State.completeOk_draws (s : State) (e : Effect) : (s.completeOk e).draws = s.draws := rfl
@[simp] theorem State.completeOk_inbox (s : State) (e : Effect) : (s.completeOk e).inbox = s.inbox := rfl
@[simp] theorem State.completeOk_replies (s : State) (e : Effect) : (s.completeOk e).replies = s.replies := rfl

@[simp] theorem State.reply_params (s : State) (v : Word) : (s.reply v).params = s.params := rfl
@[simp] theorem State.reply_irqEn (s : State) (v : Word) : (s.reply v).irqEn = s.irqEn := rfl
@[simp] theorem State.reply_done (s : State) (v : Word) : (s.reply v).done = s.done := rfl
@[simp] theorem State.reply_result (s : State) (v : Word) : (s.reply v).result = s.result := rfl
@[simp] theorem State.reply_overrun (s : State) (v : Word) : (s.reply v).overrun = s.overrun := rfl
@[simp] theorem State.reply_accerr (s : State) (v : Word) : (s.reply v).accerr = s.accerr := rfl
@[simp] theorem State.reply_errcode (s : State) (v : Word) : (s.reply v).errcode = s.errcode := rfl
@[simp] theorem State.reply_arg (s : State) (v : Word) : (s.reply v).arg = s.arg := rfl
@[simp] theorem State.reply_res (s : State) (v : Word) : (s.reply v).res = s.res := rfl
@[simp] theorem State.reply_berPos (s : State) (v : Word) : (s.reply v).berPos = s.berPos := rfl
@[simp] theorem State.reply_berEnd (s : State) (v : Word) : (s.reply v).berEnd = s.berEnd := rfl
@[simp] theorem State.reply_phase (s : State) (v : Word) : (s.reply v).phase = s.phase := rfl
@[simp] theorem State.reply_cmdl (s : State) (v : Word) : (s.reply v).cmdl = s.cmdl := rfl
@[simp] theorem State.reply_argl (s : State) (v : Word) : (s.reply v).argl = s.argl := rfl
@[simp] theorem State.reply_aes (s : State) (v : Word) : (s.reply v).aes = s.aes := rfl
@[simp] theorem State.reply_bf (s : State) (v : Word) : (s.reply v).bf = s.bf := rfl
@[simp] theorem State.reply_gh (s : State) (v : Word) : (s.reply v).gh = s.gh := rfl
@[simp] theorem State.reply_dmem (s : State) (v : Word) : (s.reply v).dmem = s.dmem := rfl
@[simp] theorem State.reply_epoch (s : State) (v : Word) : (s.reply v).epoch = s.epoch := rfl
@[simp] theorem State.reply_draws (s : State) (v : Word) : (s.reply v).draws = s.draws := rfl
@[simp] theorem State.reply_inbox (s : State) (v : Word) : (s.reply v).inbox = s.inbox := rfl
@[simp] theorem State.reply_replies (s : State) (v : Word) : (s.reply v).replies = s.replies ++ [v] := rfl

@[simp] theorem State.clearStatus_params (s : State) (v : Word) : (s.clearStatus v).params = s.params := rfl
@[simp] theorem State.clearStatus_irqEn (s : State) (v : Word) : (s.clearStatus v).irqEn = s.irqEn := rfl
@[simp] theorem State.clearStatus_done (s : State) (v : Word) : (s.clearStatus v).done = (s.done && !v.getLsbD 1) := rfl
@[simp] theorem State.clearStatus_result (s : State) (v : Word) : (s.clearStatus v).result = s.result := rfl
@[simp] theorem State.clearStatus_overrun (s : State) (v : Word) : (s.clearStatus v).overrun = (s.overrun && !v.getLsbD 7) := rfl
@[simp] theorem State.clearStatus_accerr (s : State) (v : Word) : (s.clearStatus v).accerr = (s.accerr && !v.getLsbD 8) := rfl
@[simp] theorem State.clearStatus_errcode (s : State) (v : Word) : (s.clearStatus v).errcode = s.errcode := rfl
@[simp] theorem State.clearStatus_arg (s : State) (v : Word) : (s.clearStatus v).arg = s.arg := rfl
@[simp] theorem State.clearStatus_res (s : State) (v : Word) : (s.clearStatus v).res = s.res := rfl
@[simp] theorem State.clearStatus_berPos (s : State) (v : Word) : (s.clearStatus v).berPos = s.berPos := rfl
@[simp] theorem State.clearStatus_berEnd (s : State) (v : Word) : (s.clearStatus v).berEnd = s.berEnd := rfl
@[simp] theorem State.clearStatus_phase (s : State) (v : Word) : (s.clearStatus v).phase = s.phase := rfl
@[simp] theorem State.clearStatus_cmdl (s : State) (v : Word) : (s.clearStatus v).cmdl = s.cmdl := rfl
@[simp] theorem State.clearStatus_argl (s : State) (v : Word) : (s.clearStatus v).argl = s.argl := rfl
@[simp] theorem State.clearStatus_aes (s : State) (v : Word) : (s.clearStatus v).aes = s.aes := rfl
@[simp] theorem State.clearStatus_bf (s : State) (v : Word) : (s.clearStatus v).bf = s.bf := rfl
@[simp] theorem State.clearStatus_gh (s : State) (v : Word) : (s.clearStatus v).gh = s.gh := rfl
@[simp] theorem State.clearStatus_dmem (s : State) (v : Word) : (s.clearStatus v).dmem = s.dmem := rfl
@[simp] theorem State.clearStatus_epoch (s : State) (v : Word) : (s.clearStatus v).epoch = s.epoch := rfl
@[simp] theorem State.clearStatus_draws (s : State) (v : Word) : (s.clearStatus v).draws = s.draws := rfl
@[simp] theorem State.clearStatus_inbox (s : State) (v : Word) : (s.clearStatus v).inbox = s.inbox := rfl
@[simp] theorem State.clearStatus_replies (s : State) (v : Word) : (s.clearStatus v).replies = s.replies := rfl

@[simp] theorem State.softReset_params (s : State) : (s.softReset).params = s.params := rfl
@[simp] theorem State.softReset_irqEn (s : State) : (s.softReset).irqEn = false := rfl
@[simp] theorem State.softReset_done (s : State) : (s.softReset).done = false := rfl
@[simp] theorem State.softReset_result (s : State) : (s.softReset).result = false := rfl
@[simp] theorem State.softReset_overrun (s : State) : (s.softReset).overrun = false := rfl
@[simp] theorem State.softReset_accerr (s : State) : (s.softReset).accerr = false := rfl
@[simp] theorem State.softReset_errcode (s : State) : (s.softReset).errcode = none := rfl
@[simp] theorem State.softReset_arg (s : State) : (s.softReset).arg = Vector.replicate 8 0 := rfl
@[simp] theorem State.softReset_res (s : State) : (s.softReset).res = ResRegs.zero := rfl
@[simp] theorem State.softReset_berPos (s : State) : (s.softReset).berPos = 0 := rfl
@[simp] theorem State.softReset_berEnd (s : State) : (s.softReset).berEnd = 0 := rfl
@[simp] theorem State.softReset_phase (s : State) : (s.softReset).phase = .idle := rfl
@[simp] theorem State.softReset_cmdl (s : State) : (s.softReset).cmdl = 0 := rfl
@[simp] theorem State.softReset_argl (s : State) : (s.softReset).argl = Vector.replicate 8 0 := rfl
@[simp] theorem State.softReset_aes (s : State) : (s.softReset).aes = AesUnit.zero := rfl
@[simp] theorem State.softReset_bf (s : State) : (s.softReset).bf = BfUnit.zero := rfl
@[simp] theorem State.softReset_gh (s : State) : (s.softReset).gh = GhUnit.zero := rfl
@[simp] theorem State.softReset_dmem (s : State) : (s.softReset).dmem = s.dmemAfterSoftReset := rfl
@[simp] theorem State.softReset_epoch (s : State) : (s.softReset).epoch = s.epoch := rfl
@[simp] theorem State.softReset_draws (s : State) : (s.softReset).draws = s.draws + 1 := rfl
@[simp] theorem State.softReset_inbox (s : State) : (s.softReset).inbox = s.inbox := rfl
@[simp] theorem State.softReset_replies (s : State) : (s.softReset).replies = s.replies := rfl

@[simp] theorem State.powerCycle_params (s : State) : (s.powerCycle).params = s.params := rfl
@[simp] theorem State.powerCycle_irqEn (s : State) : (s.powerCycle).irqEn = false := rfl
@[simp] theorem State.powerCycle_done (s : State) : (s.powerCycle).done = false := rfl
@[simp] theorem State.powerCycle_result (s : State) : (s.powerCycle).result = false := rfl
@[simp] theorem State.powerCycle_overrun (s : State) : (s.powerCycle).overrun = false := rfl
@[simp] theorem State.powerCycle_accerr (s : State) : (s.powerCycle).accerr = false := rfl
@[simp] theorem State.powerCycle_errcode (s : State) : (s.powerCycle).errcode = none := rfl
@[simp] theorem State.powerCycle_arg (s : State) : (s.powerCycle).arg = Vector.replicate 8 0 := rfl
@[simp] theorem State.powerCycle_res (s : State) : (s.powerCycle).res = ResRegs.zero := rfl
@[simp] theorem State.powerCycle_berPos (s : State) : (s.powerCycle).berPos = 0 := rfl
@[simp] theorem State.powerCycle_berEnd (s : State) : (s.powerCycle).berEnd = 0 := rfl
@[simp] theorem State.powerCycle_phase (s : State) : (s.powerCycle).phase = .idle := rfl
@[simp] theorem State.powerCycle_cmdl (s : State) : (s.powerCycle).cmdl = 0 := rfl
@[simp] theorem State.powerCycle_argl (s : State) : (s.powerCycle).argl = Vector.replicate 8 0 := rfl
@[simp] theorem State.powerCycle_aes (s : State) : (s.powerCycle).aes = AesUnit.zero := rfl
@[simp] theorem State.powerCycle_bf (s : State) : (s.powerCycle).bf = BfUnit.zero := rfl
@[simp] theorem State.powerCycle_gh (s : State) : (s.powerCycle).gh = GhUnit.zero := rfl
@[simp] theorem State.powerCycle_dmem (s : State) : (s.powerCycle).dmem = [] := rfl
@[simp] theorem State.powerCycle_epoch (s : State) : (s.powerCycle).epoch = s.draws := rfl
@[simp] theorem State.powerCycle_draws (s : State) : (s.powerCycle).draws = s.draws + 1 := rfl
@[simp] theorem State.powerCycle_inbox (s : State) : (s.powerCycle).inbox = s.inbox := rfl
@[simp] theorem State.powerCycle_replies (s : State) : (s.powerCycle).replies = s.replies := rfl

@[simp] theorem State.powerOn_params (p : Params) : (State.powerOn p).params = p := rfl
@[simp] theorem State.powerOn_irqEn (p : Params) : (State.powerOn p).irqEn = false := rfl
@[simp] theorem State.powerOn_done (p : Params) : (State.powerOn p).done = false := rfl
@[simp] theorem State.powerOn_result (p : Params) : (State.powerOn p).result = false := rfl
@[simp] theorem State.powerOn_overrun (p : Params) : (State.powerOn p).overrun = false := rfl
@[simp] theorem State.powerOn_accerr (p : Params) : (State.powerOn p).accerr = false := rfl
@[simp] theorem State.powerOn_errcode (p : Params) : (State.powerOn p).errcode = none := rfl
@[simp] theorem State.powerOn_arg (p : Params) : (State.powerOn p).arg = Vector.replicate 8 0 := rfl
@[simp] theorem State.powerOn_res (p : Params) : (State.powerOn p).res = ResRegs.zero := rfl
@[simp] theorem State.powerOn_berPos (p : Params) : (State.powerOn p).berPos = 0 := rfl
@[simp] theorem State.powerOn_berEnd (p : Params) : (State.powerOn p).berEnd = 0 := rfl
@[simp] theorem State.powerOn_phase (p : Params) : (State.powerOn p).phase = .idle := rfl
@[simp] theorem State.powerOn_cmdl (p : Params) : (State.powerOn p).cmdl = 0 := rfl
@[simp] theorem State.powerOn_argl (p : Params) : (State.powerOn p).argl = Vector.replicate 8 0 := rfl
@[simp] theorem State.powerOn_aes (p : Params) : (State.powerOn p).aes = AesUnit.zero := rfl
@[simp] theorem State.powerOn_bf (p : Params) : (State.powerOn p).bf = BfUnit.zero := rfl
@[simp] theorem State.powerOn_gh (p : Params) : (State.powerOn p).gh = GhUnit.zero := rfl
@[simp] theorem State.powerOn_dmem (p : Params) : (State.powerOn p).dmem = [] := rfl
@[simp] theorem State.powerOn_epoch (p : Params) : (State.powerOn p).epoch = 0 := rfl
@[simp] theorem State.powerOn_draws (p : Params) : (State.powerOn p).draws = 1 := rfl
@[simp] theorem State.powerOn_inbox (p : Params) : (State.powerOn p).inbox = [] := rfl
@[simp] theorem State.powerOn_replies (p : Params) : (State.powerOn p).replies = [] := rfl

@[simp] theorem Effect.apply_dmem_none (e : Effect) (s : State) (h : e.dmem = none) : (e.apply s).dmem = s.dmem := by
  simp [Effect.apply, h]

@[simp] theorem Effect.apply_dmem_some (e : Effect) (s : State) (a : Nat) (bs : Bytes) (h : e.dmem = some (a, bs)) :
    (e.apply s).dmem = s.dmem.write a bs := by
  simp [Effect.apply, h]

@[simp] theorem Effect.apply_params (e : Effect) (s : State) : (e.apply s).params = s.params := rfl
@[simp] theorem Effect.apply_irqEn (e : Effect) (s : State) : (e.apply s).irqEn = s.irqEn := rfl
@[simp] theorem Effect.apply_done (e : Effect) (s : State) : (e.apply s).done = s.done := rfl
@[simp] theorem Effect.apply_result (e : Effect) (s : State) : (e.apply s).result = s.result := rfl
@[simp] theorem Effect.apply_overrun (e : Effect) (s : State) : (e.apply s).overrun = s.overrun := rfl
@[simp] theorem Effect.apply_accerr (e : Effect) (s : State) : (e.apply s).accerr = s.accerr := rfl
@[simp] theorem Effect.apply_errcode (e : Effect) (s : State) : (e.apply s).errcode = s.errcode := rfl
@[simp] theorem Effect.apply_arg (e : Effect) (s : State) : (e.apply s).arg = s.arg := rfl
@[simp] theorem Effect.apply_res (e : Effect) (s : State) : (e.apply s).res = e.res.getD s.res := rfl
@[simp] theorem Effect.apply_berPos (e : Effect) (s : State) : (e.apply s).berPos = e.berPos.getD s.berPos := rfl
@[simp] theorem Effect.apply_berEnd (e : Effect) (s : State) : (e.apply s).berEnd = s.berEnd := rfl
@[simp] theorem Effect.apply_phase (e : Effect) (s : State) : (e.apply s).phase = s.phase := rfl
@[simp] theorem Effect.apply_cmdl (e : Effect) (s : State) : (e.apply s).cmdl = s.cmdl := rfl
@[simp] theorem Effect.apply_argl (e : Effect) (s : State) : (e.apply s).argl = s.argl := rfl
@[simp] theorem Effect.apply_aes (e : Effect) (s : State) : (e.apply s).aes = e.aes.getD s.aes := rfl
@[simp] theorem Effect.apply_bf (e : Effect) (s : State) : (e.apply s).bf = e.bf.getD s.bf := rfl
@[simp] theorem Effect.apply_gh (e : Effect) (s : State) : (e.apply s).gh = e.gh.getD s.gh := rfl
@[simp] theorem Effect.apply_epoch (e : Effect) (s : State) : (e.apply s).epoch = s.epoch := rfl
@[simp] theorem Effect.apply_draws (e : Effect) (s : State) : (e.apply s).draws = s.draws := rfl
@[simp] theorem Effect.apply_inbox (e : Effect) (s : State) : (e.apply s).inbox = s.inbox := rfl
@[simp] theorem Effect.apply_replies (e : Effect) (s : State) : (e.apply s).replies = s.replies := rfl

end Sys2Proof.Machine
end

