-- ==== Sys2Proof/Laws/Rules.lean ====
section
/-! SUPPORT. What a command can do, said once: exec completes the command's rule, the rule's one MemWrite lies inside
DMEM, and which state each rule can write. -/

namespace Sys2Proof.Machine

/-- exec is the completion of the command's rule (R253). -/
theorem exec_eq (i : Instr) (s : State) : exec i s = .next (s.complete (ruleOf i s)) := by
  cases i <;> rfl

/-- The two ways a command completes (R253). -/
theorem exec_cases {i : Instr} {s t : State} (h : exec i s = .next t) :
    (∃ e, ruleOf i s = .ok e ∧ t = s.completeOk e) ∨ (∃ c, ruleOf i s = .error c ∧ t = s.completeError c) := by
  rw [exec_eq] at h
  cases hr : ruleOf i s with
  | ok e => left; refine ⟨e, rfl, ?_⟩; simpa [hr, State.complete] using h.symm
  | error c => right; refine ⟨c, rfl, ?_⟩; simpa [hr, State.complete] using h.symm

@[simp] theorem aesStateBytes_length (s : AesState) : (aesStateBytes s).length = 16 := rfl

@[simp] theorem aesEncrypt_length (u : AesUnit) (b : Bytes) : (aesEncrypt u b).length = 16 := rfl

@[simp] theorem aesDecrypt_length (u : AesUnit) (b : Bytes) : (aesDecrypt u b).length = 16 := rfl

@[simp] theorem bfBlock_length (f : Word → Word → Word × Word) (b : Bytes) : (bfBlock f b).length = 8 := by
  simp [bfBlock]

@[simp] theorem x25519_length (kb ub : Bytes) : (x25519 kb ub).length = 32 := by simp [x25519]

@[simp] theorem x448_length (kb ub : Bytes) : (x448 kb ub).length = 56 := by simp [x448]

@[simp] theorem encodePoint_length (l : Nat) (p : Point) : (encodePoint l p).length = 1 + 2 * l := by
  cases p <;> simp [encodePoint] <;> omega

/-- The common form of AES_ENC and AES_DEC: its checks, then one MemWrite (R127, R128). -/
theorem ruleAesBlock_eq_ok {f : AesUnit → Bytes → Bytes} {s : State} {e : Effect} :
    ruleAesBlock f s = .ok e ↔
      s.argN 0 + 16 ≤ s.params.dmemBytes ∧ s.argN 1 + 16 ≤ s.params.dmemBytes ∧ s.aes.kv = true ∧
        e = { result := true, dmem := some (s.argN 1, f s.aes (s.memRead (s.argN 0) 16)) } := by
  simp [ruleAesBlock, bind_eq_ok, checkRange_eq_ok, require_eq_ok, @eq_comm Effect e]

/-- The common form of BF_ENC and BF_DEC: its checks, then one MemWrite (R146, R147). -/
theorem ruleBfBlock_eq_ok {f : BfUnit → Word → Word → Word × Word} {s : State} {e : Effect} :
    ruleBfBlock f s = .ok e ↔
      s.argN 0 + 8 ≤ s.params.dmemBytes ∧ s.argN 1 + 8 ≤ s.params.dmemBytes ∧ s.bf.kv = true ∧
        e = { result := true, dmem := some (s.argN 1, bfBlock (f s.bf) (s.memRead (s.argN 0) 8)) } := by
  simp [ruleBfBlock, bind_eq_ok, checkRange_eq_ok, require_eq_ok, @eq_comm Effect e]

/-- The common form of X25519 and X448: its checks, then one MemWrite (R205, R206). -/
theorem ruleMx_eq_ok {n : Nat} {f : Bytes → Bytes → Bytes} {s : State} {e : Effect} :
    ruleMx n f s = .ok e ↔
      s.argN 0 + n ≤ s.params.dmemBytes ∧ s.argN 1 + n ≤ s.params.dmemBytes ∧ s.argN 2 + n ≤ s.params.dmemBytes ∧
        e = { result := true
              dmem := some (s.argN 2, f (s.memRead (s.argN 0) n) (s.memRead (s.argN 1) n)) } := by
  simp [ruleMx, bind_eq_ok, checkRange_eq_ok, @eq_comm Effect e]

/-- ec_params succeeds exactly for a legal L and parameters inside DMEM (R185). -/
theorem ecParams_eq_ok {s : State} {u : Unit} :
    ecParams s = .ok u ↔
      (s.ecLen ≠ 0 ∧ s.ecLen ≤ s.params.lmax) ∧ s.argN 0 + 3 * s.ecLen ≤ s.params.dmemBytes := by
  simp [ecParams, bind_eq_ok, checkLen_eq_ok, checkRange_eq_ok]

/-- A curve that ec_curve returns is reduced (R185). -/
theorem ecCurve_reduced {s : State} {c : Curve} (h : ecCurve s = .ok c) : 3 ≤ c.p ∧ c.a < c.p ∧ c.b < c.p := by
  simp only [ecCurve, bind_eq_ok, require_eq_ok, Except.ok.injEq] at h
  obtain ⟨_, h1, _, h2, rfl⟩ := h
  simpa using And.intro h1 h2

/-- A decoded affine point has reduced coordinates (R181). -/
theorem decodePoint_reduced {c : Curve} {l : Nat} {s : Bytes} {x y : Nat}
    (h : decodePoint c l s = .ok (.affine x y)) : x < c.p ∧ y < c.p := by
  unfold decodePoint at h
  split at h
  · simp at h
  · simp only [bind_eq_ok, require_eq_ok, Except.ok.injEq, Point.affine.injEq] at h
    obtain ⟨_, _, _, h2, rfl, rfl⟩ := h
    simpa using h2

/-- ber_window succeeds exactly for a window inside DMEM (R232). -/
theorem berWindow_eq_ok {s : State} {u : Unit} :
    berWindow s = .ok u ↔ s.berEnd.toNat ≤ s.params.dmemBytes ∧ s.berPos.toNat ≤ s.berEnd.toNat := by
  simp [berWindow, require_eq_ok]

end Sys2Proof.Machine
end

