-- ==== Sys2Proof/Laws/Step.lean ====
section
/-! SUPPORT. What one step can do, said once: the engine completes, the host moves, or nothing happens. -/

namespace Sys2Proof.Machine

/-- The three moves of a step. -/
theorem step_cases {s t : State} (h : step s = .next t) :
    (turn s = .engine ∧ engineStep s = .next t) ∨
      (∃ input rest, turn s = .host input rest ∧ hostInput { s with inbox := rest } input = .next t) ∨
      (turn s = .idle ∧ t = s) := by
  unfold step stepBody at h
  split at h
  · exact .inl ⟨‹_›, h⟩
  · exact .inr (.inl ⟨_, _, ‹_›, h⟩)
  · exact .inr (.inr ⟨‹_›, by simpa using h.symm⟩)

/-- The engine completes the command CMDL decodes to, or a reserved word with BADCMD (R97, R253). -/
theorem engineStep_cases {s t : State} (h : engineStep s = .next t) :
    (∃ i, decode s.cmdl = .ok i ∧ exec i s = .next t) ∨
      (∃ e, decode s.cmdl = .error e ∧ t = s.completeError .badCmd) := by
  unfold engineStep at h
  split at h
  · exact .inl ⟨_, ‹_›, h⟩
  · exact .inr ⟨_, ‹_›, by simpa using h.symm⟩

/-- The engine's step completes the rule of the word CMDL (R253). -/
theorem engineStep_eq (s : State) : engineStep s = .next (s.complete (ruleOfWord s.cmdl s)) := by
  unfold engineStep ruleOfWord
  cases decode s.cmdl with
  | ok i => exact exec_eq i s
  | error e => rfl

/-- The engine moves only while a command runs. -/
theorem turn_engine_running {s : State} (h : turn s = .engine) : s.phase = .running := by
  unfold turn at h
  split at h <;> simp_all

/-- The CORE is idle only with no command running and no input to come. -/
theorem turn_idle {s : State} (h : turn s = .idle) : s.phase = .idle ∧ s.inbox = [] := by
  unfold turn at h
  split at h
  · simp at h
  · split at h <;> simp at h
  · exact ⟨‹_›, ‹_›⟩
  · simp at h

/-- The host moves with the first input of the inbox. -/
theorem turn_host {s : State} {input : HostInput} {rest : List HostEvent} (h : turn s = .host input rest) :
    ∃ e, s.inbox = e :: rest ∧ e.input = input ∧ (s.phase = .running → e.early = true) := by
  unfold turn at h
  split at h
  · simp at h
  · split at h
    · simp only [Turn.host.injEq] at h
      exact ⟨_, by simp_all, h.1, fun _ => ‹_›⟩
    · simp at h
  · simp at h
  · simp only [Turn.host.injEq] at h
    exact ⟨_, by simp_all, h.1, fun hr => by simp_all⟩

/-- What a host read that is not refused does (R60 to R66). -/
theorem hostRead_cases {s t : State} {addr size : Nat} (h : hostRead s addr size = .next t) :
    (∃ off, windowOf s.params addr = .csr off ∧ csrAccessOk off size = true ∧ t = s.reply (csrRead s (csrAt off))) ∨
      (∃ off, windowOf s.params addr = .dmem off ∧ dmemAccessOk s.params off size = true ∧
        t = dmemHostRead s off size) := by
  unfold hostRead at h
  split at h
  · split at h
    · exact .inl ⟨_, ‹_›, ‹_›, by simpa using h.symm⟩
    · simp at h
  · split at h
    · exact .inr ⟨_, ‹_›, ‹_›, by simpa using h.symm⟩
    · simp at h
  · simp at h

/-- What a host write that is not refused does (R60 to R66). -/
theorem hostWrite_cases {s t : State} {addr size : Nat} {v : Word} (h : hostWrite s addr size v = .next t) :
    (∃ off, windowOf s.params addr = .csr off ∧ csrAccessOk off size = true ∧ t = csrWrite s (csrAt off) v) ∨
      (∃ off, windowOf s.params addr = .dmem off ∧ dmemAccessOk s.params off size = true ∧
        t = dmemHostWrite s off size v) := by
  unfold hostWrite at h
  split at h
  · split at h
    · exact .inl ⟨_, ‹_›, ‹_›, by simpa using h.symm⟩
    · simp at h
  · split at h
    · exact .inr ⟨_, ‹_›, ‹_›, by simpa using h.symm⟩
    · simp at h
  · simp at h

/-- The shape of a DMEM access the host port admits (R62). -/
theorem dmemAccessOk_inside {p : Params} {off size : Nat} (h : dmemAccessOk p off size = true) :
    off + size ≤ p.dmemBytes ∧ off % size = 0 ∧ (size = 1 ∨ size = 2 ∨ size = 4) := by
  simp [dmemAccessOk] at h
  omega

end Sys2Proof.Machine
end

