-- ==== Sys2Proof/Tests/Slice0.lean ====
section
/-! SUPPORT. Tests of single steps, with expected values from spec/95_test_vectors.md and hand calculation, the smoke
test of WellFormed, the decoding of words written out from 30_encoding.md R90 and R93, and a witness for the hypotheses
of every obligation that has hypotheses. -/

namespace Sys2Proof.Tests

open Sys2Proof.Machine

-- One theorem at a time: the kernel checks below, run beside each other, would need a thread and a stack each.
set_option Elab.async false

/-! ### Helpers -/

/-- Eight registers from a list, 0 beyond it. -/
def regs (args : List Nat) : Vector Word 8 := Vector.ofFn (fun i => BitVec.ofNat 32 (args.getD i.val 0))

/-- The `n` bytes of a hexadecimal string written as one number, at address `a`. -/
def bytesAt (a n v : Nat) : Memory := Memory.cells a (beBytes n v)

/-- The reset state with the given arguments latched and the given cells of DMEM. -/
def ready (args : List Nat) (m : Memory) : State := { State.reset with argl := regs args, dmem := m }

/-- The same with the arguments in ARG0 to ARG7, before a command is issued. -/
def asked (args : List Nat) (m : Memory) : State := { State.reset with arg := regs args, dmem := m }

/-- The state a step leaves, or the state it began in where it leaves none. -/
def left (s : State) : Host.Outcome State Fault Refusal → State
  | .next t => t
  | .fault _ => s
  | .refused _ => s

/-- The state after the word `w` is issued and completed. -/
def ran (s : State) (w : Nat) : State := left s (step (s.withFetchWord 32 w))

/-- DMEM bytes as one number, the byte at the lowest address most significant. -/
def numAt (s : State) (a n : Nat) : Nat := beNat (s.memRead a n)

/-- A state in which the word `w` runs. -/
def running (s : State) (w : Word) : State := { s with cmdl := w, phase := .running }

/-! ### WellFormed -/

theorem test_params_default_accepted : Params.default.wellFormed = true := by decide

theorem test_params_largest_accepted :
    { Params.default with dmemBytes := 65536, lmax := 4095 }.wellFormed = true := by decide

theorem test_params_refused_dmem :
    { Params.default with dmemBytes := 1025 }.wellFormed = false ∧
      { Params.default with dmemBytes := 768 }.wellFormed = false ∧
      { Params.default with dmemBytes := 65792 }.wellFormed = false := by decide

theorem test_params_refused_lmax :
    { Params.default with lmax := 65 }.wellFormed = false ∧
      { Params.default with lmax := 4096 }.wellFormed = false := by decide

theorem test_params_refused_windows :
    { Params.default with baseDmem := 4095 }.wellFormed = false ∧
      { Params.default with baseCsr := 12287 }.wellFormed = false := by decide

theorem test_csr_access_refused :
    csrAccessOk 0x010 4 = true ∧ csrAccessOk 0x012 4 = false ∧ csrAccessOk 0x010 2 = false := by decide

/-- 95_test_vectors.md 2.4. -/
theorem test_dmem_access_refused :
    dmemAccessOk Params.default 0x11 1 = true ∧ dmemAccessOk Params.default 0x11 2 = false ∧
      dmemAccessOk Params.default 8192 4 = false ∧ dmemAccessOk Params.default 0x10 8 = false := by decide

/-! ### Decoding: words written out from R90 and R93 -/

theorem test_decode_control : decode 0x00000000 = .ok .nop ∧ decode 0x00000001 = .ok .zeroize := by decide

theorem test_decode_aes :
    decode 0x00000010 = .ok .aesKey ∧ decode 0x00000011 = .ok .aesEnc ∧ decode 0x00000012 = .ok .aesDec := by decide

theorem test_decode_blowfish :
    decode 0x00000018 = .ok .bfKey ∧ decode 0x00000019 = .ok .bfEnc ∧ decode 0x0000001A = .ok .bfDec := by decide

theorem test_decode_gh :
    decode 0x00000020 = .ok .ghSetH ∧ decode 0x00000021 = .ok .ghDeriveH ∧ decode 0x00000022 = .ok .ghClear ∧
      decode 0x00000023 = .ok .ghLoadX ∧ decode 0x00000024 = .ok .ghUpdate ∧ decode 0x00000025 = .ok .ghStoreX ∧
      decode 0x00000026 = .ok .gfMul ∧ decode 0x00000027 = .ok .ctCompare := by decide

theorem test_decode_ec :
    decode 0x00000030 = .ok (.ecAdd false) ∧ decode 0x00000130 = .ok (.ecAdd true) ∧
      decode 0x00000031 = .ok (.ecDbl false) ∧ decode 0x00000131 = .ok (.ecDbl true) ∧
      decode 0x00000032 = .ok .ecCheck := by decide

theorem test_decode_mx_me :
    decode 0x00000038 = .ok .x25519 ∧ decode 0x00000039 = .ok .x448 ∧ decode 0x00000040 = .ok .modexp := by decide

theorem test_decode_ber :
    decode 0x00000048 = .ok .berTag ∧ decode 0x00000049 = .ok .berSeq ∧ decode 0x0000004A = .ok .berInt := by decide

/-- 95_test_vectors.md 2.1. -/
theorem test_decode_reserved :
    decode 0x00000002 = .error .reservedOp ∧ decode 0x0000004B = .error .reservedOp ∧
      decode 0x00000132 = .error .reservedV ∧ decode 0x00000111 = .error .reservedV ∧
      decode 0x00000200 = .error .reservedBits ∧ decode 0xFFFFFFFF = .error .reservedBits := by decide

theorem test_decode_table_word :
    decodeTableWord 32 0x131 = some (.ecDbl true) ∧ decodeTableWord 32 0x100 = none := by decide

/-! ### The host port (95_test_vectors.md 2.1 to 2.4) -/

theorem test_identification :
    csrRead State.reset .id = 0x50443036 ∧ csrRead State.reset .version = 0x00010007 ∧
      csrRead State.reset .config = 0x02000020 := by decide

theorem test_status_write_clears_done :
    statusWord ((ran State.reset 0).clearStatus 0xFFFFFFFF) = 0x08 := by decide

theorem test_busy_command_dropped :
    statusWord (ran ((State.reset.issue 0).writeCmd 1) 0) = 0x8A := by decide

theorem test_soft_reset :
    statusWord (csrWrite (ran (asked [0, 16] (bytesAt 0 16 0)) 0x10) .ctrl 3) = 0 ∧
      ctrlWord (csrWrite (ran (asked [0, 16] (bytesAt 0 16 0)) 0x10) .ctrl 3) = 0 := by decide +kernel

theorem test_host_byte_order :
    numAt (dmemHostWrite State.reset 0x10 4 0x44332211) 0x10 4 = 0x11223344 ∧
      dmemValue (dmemHostWrite State.reset 0x10 4 0x44332211) 0x12 2 = 0x4433 := by decide

theorem test_interrupt :
    (csrWrite (ran State.reset 0) .ctrl 1).irq = true ∧
      (csrWrite (csrWrite (ran State.reset 0) .ctrl 1) .cmd 0).irq = false := by decide

/-- R64: a read changes nothing but what the host has learnt; here STATUS through the whole step. -/
theorem test_host_read_step :
    (left State.reset (step { State.reset with inbox := [⟨false, .read 0x004 4⟩] })).replies = [0x00010007] := by
  decide

/-! ### Commands -/

/-- 95_test_vectors.md 2.1. -/
theorem test_nop : statusWord (ran State.reset 0x00) = 0x0A ∧ csrRead (ran State.reset 0x00) .cmd = 0 := by decide

/-- 95_test_vectors.md 2.1. -/
theorem test_reserved_word :
    statusWord (ran State.reset 0x132) = 0x06 ∧ errcodeWord (ran State.reset 0x132) = 0x01 := by decide

/-- A CORE with the smallest DMEM, a key, a result and some bytes. -/
def full : State :=
  { State.powerOn { Params.default with dmemBytes := 1024 } with
    aes := { AesUnit.zero with kv := true, nr := 10 }, res := ⟨1, 2, 3, 4⟩, dmem := bytesAt 0x3FE 2 0xABCD }

/-- 95_test_vectors.md 2.1. -/
theorem test_zeroize_stores :
    statusWord (ran full 0x01) = 0x0A ∧ (ran full 0x01).aes = AesUnit.zero ∧ (ran full 0x01).res = ResRegs.zero := by
  decide +kernel

theorem test_zeroize_dmem : (ran full 0x01).memRead 0x3F0 16 = List.replicate 16 0 := by decide +kernel

/-- 95_test_vectors.md 3.1, RK[4..7] of 2b7e... -/
theorem test_aesKey_128 :
    let t := ran (asked [0, 16] (bytesAt 0 16 0x2b7e151628aed2a6abf7158809cf4f3c)) 0x10
    t.aes.nr = 10 ∧ t.aes.rk[4] = 0xa0fafe17 ∧ t.aes.rk[43] = 0xb6630ca6 ∧ t.aes.rk[44] = 0 := by decide +kernel

/-- 95_test_vectors.md 3.1, the 32-byte key. -/
theorem test_aesKey_256 :
    let t := ran (asked [0, 32]
      (bytesAt 0 32 0x000102030405060708090a0b0c0d0e0f101112131415161718191a1b1c1d1e1f)) 0x10
    t.aes.nr = 14 ∧ t.aes.rk[56] = 0x24fc79cc ∧ t.aes.rk[59] = 0x6d68de36 := by decide +kernel

/-- FIPS-197 C.1's key (95_test_vectors.md 3.1) loaded, and 24 bytes of DMEM at address 0. -/
def aesBlockAt (args : List Nat) (v : Nat) : State :=
  { asked args (bytesAt 0 24 v) with aes := aesLoad (beBytes 16 0x000102030405060708090a0b0c0d0e0f) 4 }

/-- 95_test_vectors.md 3.1, FIPS-197 C.1 and "Overlapping ranges". -/
theorem test_aesEnc :
    numAt (ran (aesBlockAt [0, 8] 0x00112233445566778899aabbccddeeff0000000000000000) 0x11) 0 24 =
      0x001122334455667769c4e0d86a7b0430d8cdb78070b4c55a := by decide +kernel

/-- 95_test_vectors.md 3.1, FIPS-197 C.1 in place. -/
theorem test_aesDec :
    numAt (ran (aesBlockAt [0, 0] 0x69c4e0d86a7b0430d8cdb78070b4c55a0000000000000000) 0x12) 0 16 =
      0x00112233445566778899aabbccddeeff := by decide +kernel

/-- 95_test_vectors.md 2.5. -/
theorem test_aesEnc_errors :
    (ran (asked [0, 16] []) 0x11).errcode = some .noKey ∧ (ran (asked [0x1FF1, 0] []) 0x11).errcode = some .addr ∧
      (ran (asked [0xFFFFFFF8, 0] []) 0x11).errcode = some .addr := by decide

/-- 95_test_vectors.md 2.5. -/
theorem test_bfKey_errors :
    (ran (asked [0, 0] []) 0x18).errcode = some .keyLen ∧ (ran (asked [0, 57] []) 0x18).errcode = some .keyLen ∧
      (ran (asked [0x1FF8, 9] []) 0x18).errcode = some .addr := by decide

/-- The first encryption of R143, of the zero block under the initial tables: 95_test_vectors.md 3.2 gives P[0], P[17]
and S[0][0]; the key 00 leaves P as it is. -/
theorem test_bfKey_seed :
    (bfSeed [0x00]).p[0] = 0x243f6a88 ∧ (bfSeed [0x00]).p[17] = 0x8979fb1b ∧
      bfSbox (bfSeed [0x00]) 0 0 = 0xd1310ba6 ∧ (bfSeed [0x01]).p[0] = 0x253e6b89 := by decide +kernel

/-- A Blowfish unit of hand-made tables: P[16] and P[17] set, every S-box word 0, so that every F is 0. -/
def bfToy : BfUnit := { BfUnit.zero with p := (BfUnit.zero.p.set 16 0xF0).set 17 0x0F, kv := true }

/-- By hand from R142: with every F = 0 sixteen swaps cancel, the last swap is undone, and P[16], P[17] are added. -/
theorem test_bfEnc :
    numAt (ran { asked [0, 4] (bytesAt 0 12 0x111111112222222233333333) with bf := bfToy } 0x19) 0 12 =
      0x111111112222222D111111E1 := by decide +kernel

/-- Four S-boxes of zeros but for one entry each. -/
def bfToyBoxes : BfUnit :=
  { BfUnit.zero with
    s := #v[(Vector.replicate 256 0).set 0x12 2, (Vector.replicate 256 0).set 0x34 0xFFFFFFFF,
            (Vector.replicate 256 0).set 0x56 0x10, (Vector.replicate 256 0).set 0x78 0xFFFFFFFF] }

/-- By hand from R141: ((2 + FFFFFFFF) XOR 10) + FFFFFFFF, both sums modulo 2^32. -/
theorem test_bfF : bfF bfToyBoxes 0x12345678 = 0x00000010 := by decide +kernel

/-- By hand from R142, the inverse of test_bfEnc. -/
theorem test_bfDec :
    numAt (ran { asked [4, 0] (bytesAt 0 12 0x000000002222222D111111E1) with bf := bfToy } 0x1A) 0 8 =
      0x1111111122222222 := by decide +kernel

/-- The GH unit of SP 800-38D test case 2 (95_test_vectors.md 3.3), and 16 bytes of DMEM at address 0. -/
def ghAt (args : List Nat) (x v : Nat) : State :=
  { asked args (bytesAt 0 16 v) with gh := ⟨0x66e94bd4ef8a2c3b884cfa59ca342b2e, BitVec.ofNat 128 x, true⟩ }

theorem test_ghSetH :
    (ran (asked [3] (bytesAt 3 16 0x66e94bd4ef8a2c3b884cfa59ca342b2e)) 0x20).gh =
      ⟨0x66e94bd4ef8a2c3b884cfa59ca342b2e, 0, true⟩ := by decide +kernel

/-- 95_test_vectors.md 3.1, SP 800-38D test case 1 H: the zero key. -/
theorem test_ghDeriveH :
    (ran { State.reset with aes := aesLoad (List.replicate 16 0) 4 } 0x21).gh =
      ⟨0x66e94bd4ef8a2c3b884cfa59ca342b2e, 0, true⟩ := by decide +kernel

theorem test_ghDeriveH_noKey : (ran State.reset 0x21).errcode = some .noKey := by decide

theorem test_ghClear : (ran (ghAt [] 5 0) 0x22).gh = ⟨0x66e94bd4ef8a2c3b884cfa59ca342b2e, 0, true⟩ := by
  decide +kernel

theorem test_ghLoadX :
    (ran (ghAt [0] 5 0x0388dace60b6a392f328c2b971b2fe78) 0x23).gh.x = 0x0388dace60b6a392f328c2b971b2fe78 := by
  decide +kernel

/-- 95_test_vectors.md 3.3, SP 800-38D test case 2, second block. -/
theorem test_ghUpdate :
    (ran (ghAt [0, 1] 0x5e2ec746917062882c85b0685353deb7 0x80) 0x24).gh.x = 0xf38cbb1ad69223dcc3457ae5b6b0f885 := by
  decide +kernel

/-- 95_test_vectors.md 2.5. -/
theorem test_ghUpdate_errors :
    (ran (asked [0, 1] []) 0x24).errcode = some .noKey ∧ (ran (ghAt [0, 0x10000000] 0 0) 0x24).errcode = some .addr :=
  by decide +kernel

theorem test_ghStoreX :
    numAt (ran (ghAt [1] 0x0388dace60b6a392f328c2b971b2fe78 0xAA000000000000000000000000000000) 0x25) 0 17 =
      0xAA0388dace60b6a392f328c2b971b2fe78 := by decide +kernel

/-- 95_test_vectors.md 3.3: x^127 times x. -/
theorem test_gfMul :
    numAt (ran (asked [0, 16, 32]
      (bytesAt 0 32 0x0000000000000000000000000000000140000000000000000000000000000000)) 0x26) 32 16 =
      0xe1000000000000000000000000000000 := by decide +kernel

/-- 95_test_vectors.md 3.3, in place. -/
theorem test_gfMul_in_place :
    numAt (ran (asked [0, 0, 0] (bytesAt 0 16 0x66e94bd4ef8a2c3b884cfa59ca342b2e)) 0x26) 0 16 =
      0xa569901bb4b18906f5059d24465c904d := by decide +kernel

/-- 95_test_vectors.md 3.3: the last byte differs, or nothing is compared. -/
theorem test_ctCompare :
    statusWord (ran (asked [0, 4, 4] (bytesAt 0 8 0xab6ebddfab6ebdde)) 0x27) = 0x02 ∧
      statusWord (ran (asked [0, 4, 4] (bytesAt 0 8 0xab6ebddfab6ebddf)) 0x27) = 0x0A ∧
      statusWord (ran (asked [0x2000, 0x2000, 0] []) 0x27) = 0x0A := by decide +kernel

/-- The parameters 110202 at address 0 (L = 1), P at 3 and Q at 6 (95_test_vectors.md 3.4), the result at 9. -/
def toyCurve (p q : Nat) : State :=
  asked [0, 1, 3, 6, 9] (bytesAt 0 3 0x110202 ++ bytesAt 3 3 p ++ bytesAt 6 3 q)

theorem test_ecAdd :
    numAt (ran (toyCurve 0x040501 0x040603) 0x130) 9 3 = 0x040a06 ∧
      numAt (ran (toyCurve 0x040501 0x040510) 0x30) 9 3 = 0 ∧
      numAt (ran (toyCurve 0x00ffff 0x040603) 0x30) 9 3 = 0x040603 := by decide +kernel

theorem test_ecAdd_errors :
    (ran (toyCurve 0x050501 0x040603) 0x30).errcode = some .point ∧
      (ran (toyCurve 0x041101 0x040603) 0x30).errcode = some .range ∧
      (ran (asked [0, 1, 3, 6, 9] (bytesAt 0 9 0x0f0100040101040401)) 0x30).errcode = some .noInv := by decide +kernel

theorem test_ecDbl :
    numAt (ran (toyCurve 0x040501 0) 0x31) 9 3 = 0x040603 ∧ numAt (ran (toyCurve 0x040502 0) 0x31) 9 3 = 0x040b0a := by
  decide +kernel

theorem test_ecDbl_errors :
    (ran (toyCurve 0x040502 0) 0x131).errcode = some .point ∧
      (ran (asked [0, 1, 3, 0, 9] (bytesAt 0 6 0x021111040501)) 0x31).errcode = some .modulus := by decide +kernel

theorem test_ecCheck :
    statusWord (ran (toyCurve 0x040501 0) 0x32) = 0x0A ∧ statusWord (ran (toyCurve 0x040502 0) 0x32) = 0x02 ∧
      statusWord (ran (toyCurve 0x000000 0) 0x32) = 0x02 ∧ statusWord (ran (toyCurve 0x041101 0) 0x32) = 0x02 := by
  decide +kernel

/-- 95_test_vectors.md 3.5, RFC 7748 vector 2 (bit 255 of u set). -/
theorem test_x25519 :
    numAt (ran (asked [0, 32, 0]
      (bytesAt 0 32 0x4b66e9d4d1b4673c5ad22691957d6af5c11b6421e0ea01d42ca4169e7918ba0d ++
        bytesAt 32 32 0xe5210f12786811d3f4b7959d0538ae2c31dbe7106fc03c3efc4cd549c715a493)) 0x38) 0 32 =
      0x95cbde9476e8907d7aade45cb4b873f88b595a68799fa152e6f8f7647aac7957 := by decide +kernel

/-- 95_test_vectors.md 3.5, RFC 7748 vector 1. -/
theorem test_x448 :
    numAt (ran (asked [0, 56, 0]
      (bytesAt 0 56 (0x3d262fddf9ec8e88495266fea19a34d28882acef045104d0d1aae121700a779c * 2 ^ 192 +
          0x984c24f8cdd78fbff44943eba368f54b29259a4f1c600ad3) ++
        bytesAt 56 56 (0x06fce640fa3487bfda5f6cf2d5263f8aad88334cbd07437f020f08f9814dc031 * 2 ^ 192 +
          0xddbdc38c19c6da2583fa5429db94ada18aa7a7fb4ef8a086))) 0x39) 0 56 =
      0xce3e4ff95a60dc6697da1db1d85e6afbdf79b50a2412d7546d5f239fe14fbaad * 2 ^ 192 +
        0xeb445fc66a01b0779d98223961111e21766282f73dd96b6f := by decide +kernel

/-- 95_test_vectors.md 3.6: 4^13 mod 497. -/
theorem test_modexp :
    numAt (ran (asked [0, 2, 4, 6, 2] (bytesAt 0 6 0x0004000d01f1)) 0x40) 6 2 = 0x01bd := by decide +kernel

/-- 95_test_vectors.md 3.6: 0^0 = 1, m = 1, m = 0 and L = 513. -/
theorem test_modexp_corners :
    numAt (ran (asked [0, 1, 2, 3, 1] (bytesAt 0 3 0x000005)) 0x40) 3 1 = 1 ∧
      numAt (ran (asked [0, 1, 2, 3, 1] (bytesAt 0 3 0xffff01)) 0x40) 3 1 = 0 ∧
      (ran (asked [0, 1, 2, 3, 1] (bytesAt 0 3 0xffff00)) 0x40).errcode = some .modulus ∧
      (ran (asked [0, 0, 0, 0, 513] []) 0x40).errcode = some .len := by decide +kernel

/-- The window of `n` bytes at 0x100 and a destination at 0x200 (95_test_vectors.md 3.7). -/
def berAt (l n v : Nat) : State :=
  { asked [0x200, l] (bytesAt 0x100 n v) with berPos := 0x100, berEnd := BitVec.ofNat 32 (0x100 + n) }

/-- 47_ber.md R238: high tag numbers, minimal ones too, the end of contents, and two windows BER_TAG refuses. -/
theorem test_berTag :
    (ran (berAt 0 7 0x5f8f7f03aabbcc) 0x48).res = ⟨0x15f, 2047, 3, 0x104⟩ ∧
      (ran (berAt 0 7 0x5f8f7f03aabbcc) 0x48).berPos = 0x104 ∧
      (ran (berAt 0 4 0x1f812a00) 0x48).res = ⟨0x1f, 170, 0, 0x104⟩ ∧
      (ran (berAt 0 3 0x1f2a00) 0x48).res = ⟨0x1f, 42, 0, 0x103⟩ ∧
      (ran (berAt 0 2 0x0000) 0x48).res = ⟨0, 0, 0, 0x102⟩ ∧
      statusWord (ran (berAt 0 7 0x1f9f8f8f8f7f00) 0x48) = 0x02 ∧ statusWord (ran (berAt 0 2 0x30ff) 0x48) = 0x02 := by
  decide +kernel

/-- 95_test_vectors.md 2.5: the window's end outside DMEM. -/
theorem test_berTag_window :
    (ran { State.reset with berEnd := 0x2001 } 0x48).errcode = some .addr ∧
      statusWord (ran State.reset 0x48) = 0x02 := by decide +kernel

/-- 95_test_vectors.md 3.7. -/
theorem test_berSeq :
    (ran (berAt 0 9 0x30070201050202ff7f) 0x49).res = ⟨0x430, 16, 7, 0x102⟩ ∧
      (ran (berAt 0 9 0x30070201050202ff7f) 0x49).berPos = 0x102 := by decide +kernel

/-- 95_test_vectors.md 3.7 and 1.4: a SET, and a window one byte short. -/
theorem test_berSeq_negative :
    ran (berAt 0 9 0x31070201050202ff7f) 0x49 =
        { berAt 0 9 0x31070201050202ff7f with cmdl := 0x49, argl := regs [0x200, 0], done := true } ∧
      statusWord (ran (berAt 0 8 0x30070201050202ff) 0x49) = 0x02 := by decide +kernel

/-- 95_test_vectors.md 3.7: -129 on four bytes. -/
theorem test_berInt :
    numAt (ran (berAt 4 4 0x0202ff7f) 0x4A) 0x200 4 = 0xffffff7f ∧
      (ran (berAt 4 4 0x0202ff7f) 0x4A).res = ⟨0x002, 2, 2, 0x102⟩ ∧
      (ran (berAt 4 4 0x0202ff7f) 0x4A).berPos = 0x104 := by decide +kernel

/-- 95_test_vectors.md 3.7: too long, another tag, indefinite; and the empty content. -/
theorem test_berInt_corners :
    statusWord (ran (berAt 2 5 0x0203000102) 0x4A) = 0x02 ∧ statusWord (ran (berAt 2 3 0x040105) 0x4A) = 0x02 ∧
      statusWord (ran (berAt 2 4 0x02800000) 0x4A) = 0x02 ∧ numAt (ran (berAt 2 2 0x0200) 0x4A) 0x200 2 = 0 := by
  decide +kernel

/-- A running-ready form of toyCurve with the parameters given too. -/
def onToyCurve (prm p q : Nat) : State :=
  ready [0, 1, 3, 6, 9] (bytesAt 0 3 prm ++ bytesAt 3 3 p ++ bytesAt 6 3 q)

/-- A window of `n` bytes at 0x100, the arguments latched. -/
def berReady (args : List Nat) (n v : Nat) : State :=
  { ready args (bytesAt 0x100 n v) with berPos := 0x100, berEnd := BitVec.ofNat 32 (0x100 + n) }

/-! ### Witnesses: states and operands that meet the hypotheses of the obligations, clause by clause -/

theorem witness_DecodeInvertsEncode : decode 0x00000131 = .ok (.ecDbl true) := by decide

theorem witness_DecodingIsTheOpcodeTable :
    (∃ r ∈ opcodeRows, (0x00000130 : Word) &&& r.mask = r.pattern) ∧
      ∀ r ∈ opcodeRows, (0x0000004B : Word) &&& r.mask ≠ r.pattern := by decide

/-- An idle state; running states at the first and the last word of each kind of reserved word. -/
theorem witness_ReservedWordsFailWithBadcmd :
    State.reset.phase = .idle ∧ (∀ w, turn (running State.reset w) = .engine ∧ (running State.reset w).cmdl = w) ∧
      ((0x00000200 : Word) >>> 9 ≠ 0 ∧ (0xFFFFFFFF : Word) >>> 9 ≠ 0) ∧
      ((0x00000002 : Word).toNat % 256 ∉ mapOpcodes ∧ (0x0000004B : Word).toNat % 256 ∉ mapOpcodes) ∧
      ((0x00000100 : Word).getLsbD 8 = true ∧ (0x00000100 : Word).toNat % 256 ≠ 0x30 ∧
        (0x00000100 : Word).toNat % 256 ≠ 0x31) ∧
      ((0x00000132 : Word).getLsbD 8 = true ∧ (0x00000132 : Word).toNat % 256 ≠ 0x30 ∧
        (0x00000132 : Word).toNat % 256 ≠ 0x31) :=
  ⟨rfl, fun _ => ⟨rfl, rfl⟩, by decide, by decide, by decide, by decide⟩

/-- With an empty inbox and with an input that waits. -/
theorem witness_StepRunsDecodedCommand :
    (running State.reset 0x00000048).phase = .running ∧ (running State.reset 0x00000048).inbox = [] ∧
      decode (running State.reset 0x00000048).cmdl = .ok .berTag ∧
      ∃ s : State, s.phase = .running ∧ s.inbox = [⟨false, .powerOn⟩] ∧ decode s.cmdl = .ok .nop :=
  ⟨rfl, rfl, by decide, { running State.reset 0 with inbox := [⟨false, .powerOn⟩] }, rfl, rfl, by decide⟩

/-- The first address above both windows; a read that waits, with no command running; the same input early, with one
running; and nothing to come. -/
theorem witness_HostInputsArePerformedInOrder :
    (State.reset.params.baseCsr + 4096 ≤ 12288 ∧
      State.reset.params.baseDmem + State.reset.params.dmemBytes ≤ 12288) ∧
      (∃ s : State, s.inbox = [⟨false, .read 0 4⟩] ∧ s.phase = .idle) ∧
      (∃ s : State, s.inbox = [⟨true, .read 0 4⟩] ∧ s.phase = .running) ∧
      State.reset.phase = .idle ∧ State.reset.inbox = [] :=
  ⟨by decide, ⟨{ State.reset with inbox := [⟨false, .read 0 4⟩] }, rfl, rfl⟩,
    ⟨{ running State.reset 0 with inbox := [⟨true, .read 0 4⟩] }, rfl, rfl⟩, rfl, rfl⟩

/-- Two early inputs, then the completion: three steps. -/
theorem witness_IssuedCommandsEndUnlessAnAccessIsRefused :
    ∃ s : State, s.phase = .running ∧ s.inbox.length = 2 ∧ (match core.run 3 s with
      | .next t => t.phase = .idle
      | .fault _ => False
      | .refused _ => False) :=
  ⟨{ running State.reset 0 with inbox := [⟨true, .read 0 4⟩, ⟨true, .write 0x20 4 7⟩] }, rfl, rfl, rfl⟩

theorem witness_InvariantHoldsAtReset :
    Params.default.wellFormed = true ∧
      ({ dmemBytes := 1024, lmax := 66, aes192 := true, baseCsr := 1024, baseDmem := 0 } : Params).wellFormed = true :=
  by decide

/-- The invariant holds of a state in which a command runs, and its step gives a next state. -/
theorem witness_EveryStepKeepsTheInvariant :
    (State.reset.issue 0).Inv ∧ ∃ t, step (State.reset.issue 0) = .next t :=
  ⟨⟨List.Pairwise.nil, by decide, .inl rfl, .inl rfl, fun _ => rfl, by decide, fun _ => ⟨rfl, rfl, rfl⟩, by decide⟩,
    _, rfl⟩

theorem witness_PowerOnResetValues :
    (0x00C % 4 = 0 ∧ 0x00C ≤ 0x00C ∧ 0x00C < 0x1000) ∧ 0xFFC % 4 = 0 ∧ 0x00C ≤ 0xFFC ∧ 0xFFC < 0x1000 := by decide

/-- SOFT_RESET alone and with IRQ_EN, and an idle state. -/
theorem witness_SoftResetClearsAllButDmem :
    (2 : Word).getLsbD 1 = true ∧ (3 : Word).getLsbD 1 = true ∧ State.reset.phase = .idle := by decide

/-- A running GH_STOREX stores 16 bytes; a running NOP stores nothing; a reserved word and an AES_ENC without a key
fail. -/
theorem witness_AbandonedCommandDrawsItsOutput :
    (running State.reset 0x25).phase = .running ∧
      (∃ e a bs, ruleOfWord (running State.reset 0x25).cmdl (running State.reset 0x25) = .ok e ∧
        e.dmem = some (a, bs) ∧ bs.length = 16) ∧
      (∃ e, ruleOfWord (running State.reset 0x00).cmdl (running State.reset 0x00) = .ok e ∧ e.dmem = none) ∧
      ruleOfWord (running State.reset 0x02).cmdl (running State.reset 0x02) = .error .badCmd ∧
      ruleOfWord (running State.reset 0x11).cmdl (running State.reset 0x11) = .error .noKey :=
  ⟨rfl, ⟨_, 0, blockBytes 0, rfl, rfl, rfl⟩, ⟨_, rfl, rfl⟩, rfl, rfl⟩

theorem witness_CommandIssue : State.reset.phase = .idle ∧ (running State.reset 0).phase = .running := by decide

/-- The edges of the reserved offsets, two registers, a CTRL write that is no reset, and an idle state. -/
theorem witness_RegisterMap :
    0x058 ≤ 0x058 ∧ 0x058 ≤ 0xFFC ∧ (∀ i : Fin 8, ∃ k : Fin 8, k ≠ i) ∧ (1 : Word).getLsbD 1 = false ∧
      State.reset.phase = .idle := by decide

theorem witness_InterruptLevel :
    (∃ t, exec .nop State.reset = .next t) ∧ (2 : Word).getLsbD 1 = true ∧ (1 : Word).getLsbD 1 = false ∧
      State.reset.phase = .idle :=
  ⟨⟨_, rfl⟩, by decide, by decide, rfl⟩

theorem witness_BusyDmemAccessesAndBerWritesAreDropped : (running State.reset 0x48).phase = .running := rfl

/-- Each width at the lowest and the highest offset. -/
theorem witness_IdleDmemAccessIsLittleEndian :
    State.reset.phase = .idle ∧
      ∀ a ∈ [(0, 1), (8191, 1), (0, 2), (8190, 2), (0, 4), (8188, 4)],
        dmemAccessOk State.reset.params a.1 a.2 = true := by decide

/-- Admitted and refused accesses at the edges of both windows. -/
theorem witness_HostProtocol :
    State.reset.params.wellFormed = true ∧
      (∀ a ∈ [0, 4092, 4095], a = State.reset.params.baseCsr + a ∧ a < 4096) ∧
      ∀ off ∈ [0, 8191], 4096 + off = State.reset.params.baseDmem + off ∧ off < State.reset.params.dmemBytes := by
  decide

theorem witness_IdentificationRegisters : State.reset.params.wellFormed = true := by decide

/-- Two states with different keys and subkeys, each command of the four lists, and commands that give a next state. -/
theorem witness_KeysShowOnlyInCipherOutputs :
    State.agreeButKeys
      { State.reset with aes := aesLoad (List.replicate 16 0) 4, bf := bfToy, gh := ⟨1, 5, true⟩ }
      { State.reset with
        aes := { aesLoad (List.replicate 16 0) 4 with rk := Vector.replicate 60 7 }
        bf := { bfToy with s := bfToyBoxes.s }
        gh := ⟨2, 5, true⟩ } ∧
      (∃ t, hostInput State.reset (.read 0 4) = .next t) ∧ hostInput State.reset (.read 1 4) = .refused .csrProtocol ∧
      (∀ i, ∃ t, exec i State.reset = .next t) ∧
      Instr.ghStoreX ∉ [Instr.aesEnc, .aesDec, .bfEnc, .bfDec, .ghUpdate] ∧ Instr.aesDec ∈ [Instr.aesEnc, .aesDec] ∧
      Instr.bfDec ∈ [Instr.bfEnc, .bfDec] :=
  ⟨⟨Vector.replicate 60 7, bfToy.p, bfToyBoxes.s, 2, rfl⟩, ⟨_, rfl⟩, rfl, fun i => ⟨_, exec_eq i _⟩, by decide,
    by decide, by decide⟩

/-- A command that fails, and one with a negative result. -/
theorem witness_FailingCommandsChangeNothingElse :
    (∃ t, exec .aesEnc State.reset = .next t ∧ t.result = false) ∧
      ∃ t, exec .berTag State.reset = .next t ∧ t.result = false :=
  ⟨⟨_, rfl, rfl⟩, ⟨_, rfl, rfl⟩⟩

theorem witness_CommandsKeepTheHostsRegisters : ∃ t, exec .zeroize State.reset = .next t := ⟨_, rfl⟩

/-- A BER command that moves its cursor and writes the results, and ZEROIZE, which clears them. -/
theorem witness_OnlyBerCommandsWriteResults :
    (left (berAt 0 2 0x0000) (exec .berTag (berAt 0 2 0x0000))).berPos ≠ (berAt 0 2 0x0000).berPos ∧
      (left (berAt 0 2 0x0000) (exec .berTag (berAt 0 2 0x0000))).res ≠ (berAt 0 2 0x0000).res ∧
      (left full (exec .zeroize full)).res ≠ full.res := by decide +kernel

/-- Steps that change each store: their own commands on a state that holds keys, and a soft reset. -/
theorem witness_KeyStoresChangeOnlyByTheirOwnCommands :
    (left full (step (running full 0x01))).aes ≠ (running full 0x01).aes ∧
      (left State.reset (step (running (ready [0, 16] (bytesAt 0 16 0)) 0x10))).aes ≠ AesUnit.zero ∧
      (left State.reset (step (running { State.reset with bf := bfToy } 0x01))).bf ≠ bfToy ∧
      (left State.reset (step (running (ready [0] (bytesAt 0 16 9)) 0x20))).gh.h ≠ 0 ∧
      (left State.reset (step (running (ready [0] (bytesAt 0 16 9)) 0x23))).gh.x ≠ 0 ∧
      (left full (step { full with inbox := [⟨false, .write 0x00C 4 2⟩] })).aes ≠ full.aes := by decide +kernel

theorem witness_ZeroizeClearsEveryStore : 0 < full.params.dmemBytes ∧ 1023 < full.params.dmemBytes := by decide

/-- AES_KEY: lengths 15 and 24 refused; 16 with one byte outside DMEM; 16, 32 and, where AES192 = 1, 24 accepted. -/
theorem witness_AesKeyLoadsTheSchedule :
    (∀ n ∈ [0, 15, 17, 24, 33], ¬ ((ready [0, n] []).argN 1 = 16 ∨ (ready [0, n] []).argN 1 = 32 ∨
      ((ready [0, n] []).argN 1 = 24 ∧ (ready [0, n] []).params.aes192 = true))) ∧
      ((ready [0x1FF1, 16] []).argN 1 = 16 ∧ ¬ (ready [0x1FF1, 16] []).inRange ((ready [0x1FF1, 16] []).argN 0) 16) ∧
      ((ready [0x1FF0, 16] []).argN 1 = 16 ∧ (ready [0x1FF0, 16] []).inRange ((ready [0x1FF0, 16] []).argN 0) 16) ∧
      ((ready [0, 32] []).argN 1 = 32 ∧ (ready [0, 32] []).inRange ((ready [0, 32] []).argN 0) 32) ∧
      ∃ s : State, s.argN 1 = 24 ∧ s.params.aes192 = true ∧ s.inRange (s.argN 0) 24 :=
  ⟨by decide, by decide, by decide, by decide,
    { State.powerOn { Params.default with aes192 := true } with argl := regs [0, 24] }, by decide, by decide, by decide⟩

theorem witness_KeyExpansionFollowsItsRecurrence :
    (List.replicate 16 (0 : Byte)).length = 4 * 4 ∧ (List.replicate 24 (0 : Byte)).length = 4 * 6 ∧
      (List.replicate 32 (0 : Byte)).length = 4 * 8 ∧ 8 ≤ 59 ∧ 59 < 4 * (8 + 7) := by decide

theorem witness_SboxFollowsItsDefinition : (1 : Byte) ≠ 0 ∧ gfMul8 0x53 0xCA = 1 := by decide

/-- AES_ENC and AES_DEC: the last range inside DMEM and the first one outside, for either operand, with and without a
key. -/
theorem witness_AesBlockCommands :
    ¬ ((ready [0x1FF1, 0] []).inRange ((ready [0x1FF1, 0] []).argN 0) 16) ∧
      ¬ ((ready [0, 0x1FF1] []).inRange ((ready [0, 0x1FF1] []).argN 1) 16) ∧
      (let s := ready [0x1FF0, 0x1FF0] [];
        s.inRange (s.argN 0) 16 ∧ s.inRange (s.argN 1) 16 ∧ s.aes.kv = false) ∧
      let s := { ready [0x1FF0, 0x1FF0] [] with aes := aesLoad (List.replicate 16 0) 4 }
      s.inRange (s.argN 0) 16 ∧ s.inRange (s.argN 1) 16 ∧ s.aes.kv = true := by decide

/-- A block, and the round counts of keys of all three lengths; the first and the last full round. -/
theorem witness_AesCipherAndItsInverse :
    (List.replicate 16 (0xA5 : Byte)).length = 16 ∧ (aesLoad [] 4).nr = 10 ∧ (aesLoad [] 6).nr = 12 ∧
      (aesLoad [] 8).nr = 14 ∧ 0 + 1 < 10 ∧ 12 + 1 < 14 := by decide

/-- BF_KEY: lengths 0 and 57 refused, 1 and 56 accepted, the last range inside DMEM and the first one outside. -/
theorem witness_BfKeyLoadsTheSchedule :
    (∀ n ∈ [0, 57], ¬ (1 ≤ (ready [0, n] []).argN 1 ∧ (ready [0, n] []).argN 1 ≤ 56)) ∧
      (let s := ready [0x2000, 1] [];
        1 ≤ s.argN 1 ∧ s.argN 1 ≤ 56 ∧ ¬ s.inRange (s.argN 0) (s.argN 1)) ∧
      ∀ a ∈ [[0x1FFF, 1], [0x1FC8, 56]],
        let s := ready a []
        1 ≤ s.argN 1 ∧ s.argN 1 ≤ 56 ∧ s.inRange (s.argN 0) (s.argN 1) := by decide

theorem witness_BfScheduleFollowsItsLoops : 0 < 9 ∧ 9 ≤ 9 ∧ 9 ≤ 520 ∧ 520 < 521 := by decide

theorem witness_BfKeysAreUsedCyclically : ([0x01] : Bytes) ≠ [] ∧ 1 ≤ 8 := by decide

theorem witness_BfCipherAndItsInverse : 0 < 16 ∧ 15 < 16 := by decide

/-- BF_ENC and BF_DEC, as witness_AesBlockCommands; the block's two words exist. -/
theorem witness_BfBlockCommands :
    ¬ ((ready [0x1FF9, 0] []).inRange ((ready [0x1FF9, 0] []).argN 0) 8) ∧
      (let s := ready [0x1FF8, 0x1FF8] [];
        s.inRange (s.argN 0) 8 ∧ s.inRange (s.argN 1) 8 ∧ s.bf.kv = false) ∧
      let s := { ready [0x1FF8, 0x1FF8] (bytesAt 0x1FF8 8 0x0123456789ABCDEF) with bf := bfToy }
      s.inRange (s.argN 0) 8 ∧ s.inRange (s.argN 1) 8 ∧ s.bf.kv = true ∧
        (0x01234567 : Word).toNat = beNat (s.memRead (s.argN 0) 4) ∧
        (0x89ABCDEF : Word).toNat = beNat (s.memRead (s.argN 0 + 4) 4) := by decide +kernel

/-- GH_SETH, GH_DERIVEH and GH_LOADX: in range and not, with a key and without. -/
theorem witness_GhSubkeyAndAccumulatorCommands :
    ¬ ((ready [0x1FF1] []).inRange ((ready [0x1FF1] []).argN 0) 16) ∧
      (let s := ready [0x1FF0] (bytesAt 0x1FF0 16 5);
        s.inRange (s.argN 0) 16 ∧ (5 : Block).toNat = beNat (s.memRead (s.argN 0) 16)) ∧
      State.reset.aes.kv = false ∧
      let s := { State.reset with aes := aesLoad (List.replicate 16 0) 4 }
      s.aes.kv = true ∧ (0x66e94bd4ef8a2c3b884cfa59ca342b2e : Block).toNat =
        beNat (aesEncrypt s.aes (List.replicate 16 0)) := by decide +kernel

/-- GH_UPDATE: 16n beyond DMEM, H_V = 0, and n = 0 and n = 1 with H_V = 1. -/
theorem witness_GhUpdateFoldsBlocks :
    ¬ ((ready [0, 0x10000000] []).inRange ((ready [0, 0x10000000] []).argN 0) (16 * 0x10000000)) ∧
      (let s := ready [0x1FF0, 1] [];
        s.inRange (s.argN 0) (16 * s.argN 1) ∧ s.gh.hv = false) ∧
      (let s := { ready [0x2000, 0] [] with gh := ⟨2, 0, true⟩ };
        s.inRange (s.argN 0) (16 * s.argN 1) ∧ s.gh.hv = true) ∧
      ∃ (s : State) (x : Nat → Block), s.inRange (s.argN 0) (16 * s.argN 1) ∧ s.gh.hv = true ∧ s.argN 1 = 1 ∧
        x 0 = s.gh.x ∧
        ∀ i, i < s.argN 1 → x (i + 1) = gfMult (x i ^^^ blockOf (s.memRead (s.argN 0 + 16 * i) 16)) s.gh.h :=
  ⟨by decide, by decide, by decide,
    { ready [0, 1] (bytesAt 0 16 0) with gh := ⟨2, 0, true⟩ },
    fun _ => 0, by decide, rfl, by decide, rfl, by decide +kernel⟩

theorem witness_GhashResumes :
    (List.replicate 48 (0x11 : Byte)).length = 16 * (1 + 2) ∧ ([] : Bytes).length = 16 * (0 + 0) := by decide

/-- GH_STOREX and GF_MUL: each operand at the last range inside DMEM, and one outside. -/
theorem witness_GhStoreCommands :
    (∀ a ∈ [[0x1FF1, 0, 0], [0, 0x1FF1, 0], [0, 0, 0x1FF1]],
      let s := ready a []
      ¬ (s.inRange (s.argN 0) 16 ∧ s.inRange (s.argN 1) 16 ∧ s.inRange (s.argN 2) 16)) ∧
      let s := ready [0x1FF0, 0x1FE0, 0x1FF0] (bytesAt 0x1FE0 32 7)
      s.inRange (s.argN 0) 16 ∧ s.inRange (s.argN 1) 16 ∧ s.inRange (s.argN 2) 16 ∧
        (7 : Block).toNat = beNat (s.memRead (s.argN 0) 16) ∧ (0 : Block).toNat = beNat (s.memRead (s.argN 1) 16) := by
  decide +kernel

/-- CT_COMPARE: a range outside DMEM; no byte; and strings equal and different. -/
theorem witness_CtCompareDecidesEquality :
    (let s := ready [0, 0x2000, 1] [];
      ¬ (s.inRange (s.argN 0) (s.argN 2) ∧ s.inRange (s.argN 1) (s.argN 2))) ∧
      (let s := ready [0x2000, 0x2000, 0] [];
        s.inRange (s.argN 0) (s.argN 2) ∧ s.inRange (s.argN 1) (s.argN 2)) ∧
      let s := ready [0, 0x1FFE, 2] []
      s.inRange (s.argN 0) (s.argN 2) ∧ s.inRange (s.argN 1) (s.argN 2) := by decide

/-- The smallest modulus, an invertible and a non-invertible operand. -/
theorem witness_InverseModulo : Nat.gcd 1 2 = 1 ∧ Nat.gcd 3 15 ≠ 1 ∧ Nat.gcd 0 2 ≠ 1 := by decide

/-- Coordinates of one byte: p - 1 accepted, p refused, and each kind of tag. -/
theorem witness_PointEncoding :
    let c : Curve := ⟨17, 2, 2⟩
    ([0x10] : Bytes).length = 1 ∧ ([0x11] : Bytes).length = 1 ∧ beNat [0x10] < c.p ∧
      ¬ (beNat [0x11] < c.p ∧ beNat [0x10] < c.p) ∧ (0x05 : Byte) ≠ 0x00 ∧ (0x05 : Byte) ≠ 0x04 := by decide

theorem witness_GfMultIsThePolynomialProduct : 0 < 127 ∧ 126 < 127 := by decide

/-- Reduced coordinates over 17 and over 15: opposite points, equal points, and differences and doubles with and without
an inverse. Points of the toy curve of 95_test_vectors.md 3.4, and the smallest prime the CORE takes. -/
theorem witness_PointAdditionFollowsItsFormulas :
    let c : Curve := ⟨17, 2, 2⟩
    (3 ≤ c.p ∧ 5 < c.p ∧ 16 < c.p ∧ (1 + 16) % c.p = 0 ∧ (1 + 1) % c.p ≠ 0) ∧
      (Int.gcd (2 * 1) 17 = 1 ∧ Int.gcd (2 * 3) 15 ≠ 1 ∧ Int.gcd (6 - 5) 17 = 1 ∧ Int.gcd (4 - 1) 15 ≠ 1) ∧
      Nat.Prime c.p ∧ (Point.affine 5 1).reduced c ∧ (Point.affine 6 3).reduced c ∧
      (Point.affine 5 1).valid c = true ∧ (Point.affine 6 3).valid c = true ∧ Nat.Prime 3 ∧
      Point.infinity.reduced c ∧ Point.infinity.valid c = true :=
  ⟨by decide, by decide, by norm_num, ⟨by decide, by decide⟩, ⟨by decide, by decide⟩, by decide, by decide,
    by norm_num, trivial, rfl⟩

/-- EC_ADD's clauses: L = 0 and 513; a parameter block and a result outside DMEM; p = 2; a = p; a bad tag of P; a good P
and Q with x = p; P off the curve with V = 1; x2 - x1 without an inverse; and a sum. -/
theorem witness_EcAddCommand :
    (∀ l ∈ [0, 513], ¬ (ready [0, l] []).legalLen (ready [0, l] []).ecLen) ∧
      ((ready [0x1FFE, 1] []).legalLen 1 ∧ ¬ (ready [0x1FFE, 1] []).inRange ((ready [0x1FFE, 1] []).argN 0) 3) ∧
      ((ready [0, 512, 0x1C00] []).legalLen 512 ∧
        ¬ (ready [0, 512, 0x1C00] []).inRange ((ready [0, 512, 0x1C00] []).argN 2) (1 + 2 * 512)) ∧
      (let s := onToyCurve 0x021111 0x040501 0x040603;
        s.legalLen s.ecLen ∧ s.inRange (s.argN 0) (3 * s.ecLen) ∧ s.inRange (s.argN 2) (1 + 2 * s.ecLen) ∧
          s.inRange (s.argN 3) (1 + 2 * s.ecLen) ∧ s.inRange (s.argN 4) (1 + 2 * s.ecLen) ∧ s.curve.p < 3) ∧
      (let s := onToyCurve 0x111102 0x040501 0x040603;
        3 ≤ s.curve.p ∧ ¬ (s.curve.a < s.curve.p ∧ s.curve.b < s.curve.p)) ∧
      (let s := onToyCurve 0x110202 0x050501 0x040603;
        3 ≤ s.curve.p ∧ s.curve.a < s.curve.p ∧ s.curve.b < s.curve.p ∧ s.point 2 = .error .point) ∧
      (let s := onToyCurve 0x110202 0x040501 0x041101;
        s.point 2 = .ok (.affine 5 1) ∧ s.point 3 = .error .range) ∧
      (let s := onToyCurve 0x110202 0x040502 0x040603;
        s.point 2 = .ok (.affine 5 2) ∧ s.point 3 = .ok (.affine 6 3) ∧
          ((Point.affine 5 2).valid s.curve && (Point.affine 6 3).valid s.curve) = false) ∧
      (let s := onToyCurve 0x0f0100 0x040101 0x040401;
        s.point 2 = .ok (.affine 1 1) ∧ s.point 3 = .ok (.affine 4 1) ∧
          ecAdd s.curve (.affine 1 1) (.affine 4 1) = .error .noInv) ∧
      (let s := onToyCurve 0x110202 0x040501 0x040603;
        s.point 2 = .ok (.affine 5 1) ∧ s.point 3 = .ok (.affine 6 3) ∧
          ecAdd s.curve (.affine 5 1) (.affine 6 3) = .ok (.affine 10 6)) := by decide +kernel

/-- EC_DBL's further clauses: an operand outside DMEM while arg[3], which it ignores, is too; 2y without an inverse; and
a double. -/
theorem witness_EcDblCommand :
    (let s := ready [0, 1, 0x1FFE, 0x2000, 0] [];
      s.legalLen s.ecLen ∧ ¬ s.inRange (s.argN 2) (1 + 2 * s.ecLen)) ∧
      (let s := onToyCurve 0x0f0100 0x040103 0;
        s.point 2 = .ok (.affine 1 3) ∧ ecDbl s.curve (.affine 1 3) = .error .noInv) ∧
      (let s := onToyCurve 0x110202 0x040501 0;
        s.point 2 = .ok (.affine 5 1) ∧ ecDbl s.curve (.affine 5 1) = .ok (.affine 6 3)) := by decide +kernel

/-- EC_CHECK's clauses, as witness_EcAddCommand; its point string may end at the last DMEM byte. -/
theorem witness_EcCheckCommand :
    (∀ l ∈ [0, 513], ¬ (ready [0, l] []).legalLen (ready [0, l] []).ecLen) ∧
      (let s := ready [0, 1, 0x1FFE] [];
        s.legalLen s.ecLen ∧ ¬ s.inRange (s.argN 2) (1 + 2 * s.ecLen)) ∧
      (let s := ready [0, 1, 0x1FFD] (bytesAt 0 3 0x020000);
        s.legalLen s.ecLen ∧ s.inRange (s.argN 0) (3 * s.ecLen) ∧ s.inRange (s.argN 2) (1 + 2 * s.ecLen) ∧
          s.curve.p < 3) ∧
      (let s := ready [0, 1, 0x1FFD] (bytesAt 0 3 0x030300);
        3 ≤ s.curve.p ∧ ¬ (s.curve.a < s.curve.p ∧ s.curve.b < s.curve.p)) ∧
      (let s := ready [0, 1, 0x1FFD] (bytesAt 0 3 0x030202);
        3 ≤ s.curve.p ∧ s.curve.a < s.curve.p ∧ s.curve.b < s.curve.p) := by decide +kernel

/-- X25519: each operand at the last range inside DMEM, and one outside. -/
theorem witness_X25519Command :
    (let s := ready [0, 0, 0x1FE1] [];
      ¬ (s.inRange (s.argN 0) 32 ∧ s.inRange (s.argN 1) 32 ∧ s.inRange (s.argN 2) 32)) ∧
      (let s := ready [0x1FE0, 0x1FE0, 0x1FE0] [];
        s.inRange (s.argN 0) 32 ∧ s.inRange (s.argN 1) 32 ∧ s.inRange (s.argN 2) 32) := by decide

/-- X448: each operand at the last range inside DMEM, and one outside. -/
theorem witness_X448Command :
    (let s := ready [0, 0, 0x1FC9] [];
      ¬ (s.inRange (s.argN 0) 56 ∧ s.inRange (s.argN 1) 56 ∧ s.inRange (s.argN 2) 56)) ∧
      (let s := ready [0x1FC8, 0x1FC8, 0x1FC8] [];
        s.inRange (s.argN 0) 56 ∧ s.inRange (s.argN 1) 56 ∧ s.inRange (s.argN 2) 56) := by decide

/-- The smallest modulus and fewest iterations of each part. -/
theorem witness_LadderFollowsItsSteps :
    (3 ≤ 3 ∧ 3 % 2 = 1 ∧ 1 ≤ 1) ∧ 3 ≤ 2 ^ 2 ∧ p25519 ≤ 2 ^ 255 ∧ 0 < 2 ∧ 254 < 255 := by decide

/-- MODEXP: L = 0 and 513; a modulus outside DMEM; m = 0; and L = 1 and L = 512 with m = 1. -/
theorem witness_ModexpGivesPower :
    (∀ l ∈ [0, 513], ¬ (ready [0, 0, 0, 0, l] []).legalLen ((ready [0, 0, 0, 0, l] []).argN 4)) ∧
      (let s := ready [0, 0, 0x2000, 0, 1] [];
        s.legalLen (s.argN 4) ∧ ¬ s.inRange (s.argN 2) (s.argN 4)) ∧
      (let s := ready [0, 1, 2, 0x1FFF, 1] (bytesAt 0 3 0x050500);
        s.legalLen (s.argN 4) ∧ s.inRange (s.argN 0) 1 ∧ s.inRange (s.argN 1) 1 ∧ s.inRange (s.argN 2) 1 ∧
          s.inRange (s.argN 3) 1 ∧ beNat (s.memRead (s.argN 2) 1) = 0) ∧
      (let s := ready [0, 0, 0, 0x1E00, 512] (bytesAt 0 512 1);
        s.legalLen (s.argN 4) ∧ s.inRange (s.argN 0) 512 ∧ s.inRange (s.argN 3) 512 ∧
          beNat (s.memRead (s.argN 2) 512) ≠ 0) := by decide +kernel

/-- BER_TAG: a window ending beyond DMEM and one ending before it begins; an empty window; and a header. -/
theorem witness_BerTagCommand :
    ¬ { State.reset with berEnd := 0x2001 }.legalWindow ∧ ¬ { State.reset with berPos := 1 }.legalWindow ∧
      { State.reset with berPos := 0x2000, berEnd := 0x2000 }.legalWindow ∧
      { State.reset with berPos := 0x2000, berEnd := 0x2000 }.berHeader = none ∧
      (berReady [] 3 0x020105).legalWindow ∧
      (berReady [] 3 0x020105).berHeader = some ⟨0x02, 2, 1, false, 0x102⟩ := by decide +kernel

/-- BER_SEQ: no header, the header of a SET, and SEQUENCE headers of both length forms. -/
theorem witness_BerSeqCommand :
    (State.reset.legalWindow ∧ State.reset.berHeader = none) ∧
      (berReady [] 2 0x3100).berHeader = some ⟨0x31, 17, 0, false, 0x102⟩ ∧
      (berReady [] 2 0x3000).legalWindow ∧ (berReady [] 2 0x3000).berHeader = some ⟨0x30, 16, 0, false, 0x102⟩ ∧
      (berReady [] 2 0x3080).berHeader = some ⟨0x30, 16, 0, true, 0x102⟩ := by decide +kernel

/-- BER_INT: L = 0 and 513; a destination and a window outside DMEM; a header it refuses for each of its three reasons;
and contents of 0 and of L bytes. -/
theorem witness_BerIntCommand :
    (∀ l ∈ [0, 513], ¬ (ready [0, l] []).legalLen ((ready [0, l] []).argN 1)) ∧
      ((ready [0x2000, 1] []).legalLen 1 ∧ ¬ (ready [0x2000, 1] []).inRange ((ready [0x2000, 1] []).argN 0) 1) ∧
      (let s := { ready [0x1FFF, 1] [] with berPos := 1 };
        s.legalLen (s.argN 1) ∧ s.inRange (s.argN 0) (s.argN 1) ∧ ¬ s.legalWindow) ∧
      ((berReady [0, 1] 2 0x0400).berHeader = some ⟨0x04, 4, 0, false, 0x102⟩ ∧
        (berReady [0, 1] 2 0x0280).berHeader = some ⟨0x02, 2, 0, true, 0x102⟩ ∧
        (berReady [0, 1] 4 0x02020080).berHeader = some ⟨0x02, 2, 2, false, 0x102⟩) ∧
      (let s := berReady [0, 1] 2 0x0200;
        s.legalLen (s.argN 1) ∧ s.inRange (s.argN 0) (s.argN 1) ∧ s.legalWindow ∧
          s.berHeader = some ⟨0x02, 2, 0, false, 0x102⟩) ∧
      (berReady [0, 1] 3 0x0201FF).berHeader = some ⟨0x02, 2, 1, false, 0x102⟩ := by decide +kernel

/-- Windows of 47_ber.md R238 cut into their parts: the low form, the high form with one, two and five digits, a digit
list with leading zeros and one above 2^32 - 1; the length forms at their edges. -/
theorem witness_BerHeaderReadsEveryEncoding :
    TagWritten [0x1E] 0x1E 30 ∧ TagWritten [0x1F, 0x2A] 0x1F 42 ∧ TagWritten [0x1F, 0x81, 0x2A] 0x1F 170 ∧
      TagWritten [0x1F, 0x8F, 0x8F, 0x8F, 0x8F, 0x7F] 0x1F 4058236927 ∧
      TagWritten [0x1F, 0x80, 0x80, 0x80, 0x80, 0x80, 0x01] 0x1F 1 ∧
      (TagWritten [0x1F, 0x9F, 0x8F, 0x8F, 0x8F, 0x7F] 0x1F 8353204223 ∧ 2 ^ 32 ≤ 8353204223) ∧
      LengthWritten [0x7F] 127 false ∧ LengthWritten [0x80] 0 true ∧ LengthWritten [0x81, 0x05] 5 false ∧
      LengthWritten [0x84, 0xFF, 0xFF, 0xFF, 0xFF] 4294967295 false ∧
      berHeader [0x1F, 0x81, 0x2A, 0x00] 4 = some ⟨0x1F, 170, 0, false, 4⟩ ∧
      (0x84 < (0x85 : Byte).toNat ∧ 0x84 < (0xFF : Byte).toNat) ∧ ([0x00] : Bytes).length < 2 :=
  ⟨.inl ⟨by decide, rfl, rfl⟩, .inr ⟨rfl, [], 0x2A, rfl, rfl⟩, .inr ⟨rfl, [1], 0x2A, rfl, rfl⟩,
    .inr ⟨rfl, [0x0F, 0x0F, 0x0F, 0x0F], 0x7F, rfl, rfl⟩, .inr ⟨rfl, [0, 0, 0, 0, 0], 1, rfl, rfl⟩,
    ⟨.inr ⟨rfl, [0x1F, 0x0F, 0x0F, 0x0F], 0x7F, rfl, rfl⟩, by decide⟩, .inl ⟨by decide, rfl, rfl⟩,
    .inr (.inl ⟨rfl, rfl, rfl⟩), .inr (.inr ⟨rfl, [0x05], by decide, by decide, rfl, rfl⟩),
    .inr (.inr ⟨rfl, [0xFF, 0xFF, 0xFF, 0xFF], by decide, by decide, rfl, rfl⟩), by decide, by decide, by decide⟩

/-- The cuts at the beginning and one byte before the end of 020105. -/
theorem witness_BerTruncationIsNegative :
    (berReady [0, 1] 3 0x020105).legalWindow ∧
      (berReady [0, 1] 3 0x020105).berHeader = some ⟨0x02, 2, 1, false, 0x102⟩ ∧
      (berReady [0, 1] 3 0x020105).legalLen ((berReady [0, 1] 3 0x020105).argN 1) ∧
      (berReady [0, 1] 3 0x020105).inRange ((berReady [0, 1] 3 0x020105).argN 0) 1 ∧
      (∀ e ∈ [0x100, 0x102], (berReady [0, 1] 3 0x020105).berPos.toNat ≤ e ∧ e < 0x102 + 1) := by decide +kernel

/-- Two memories that agree on the window and differ outside it. -/
theorem witness_BerReadsOnlyItsWindow :
    (∀ x, x < 3 → { berReady [0, 1] 3 0x020105 with dmem := bytesAt 0xFF 5 0xAA020105BB }.readByte (0x100 + x) =
        (berReady [0, 1] 3 0x020105).readByte (0x100 + x)) ∧
      bytesAt 0xFF 5 0xAA020105BB ≠ (berReady [0, 1] 3 0x020105).dmem := by decide +kernel

end Sys2Proof.Tests
end

section
/-! PROOFS. Reduction modulo m and the modular inverse (R9): the extended Euclidean loop ends at the gcd, with its
cofactor as inverse. -/

namespace Sys2Proof.Machine

/-- `zmod` is the remainder in [0, m), as an integer. -/
theorem zmod_cast {m : Nat} (hm : 0 < m) (v : Int) : (zmod m v : Int) = v % m :=
  Int.toNat_of_nonneg (Int.emod_nonneg v (by omega))

theorem zmod_lt {m : Nat} (hm : 0 < m) (v : Int) : zmod m v < m := by
  have hlt : v % m < m := Int.emod_lt_of_pos v (by omega)
  rw [← zmod_cast hm v] at hlt
  exact_mod_cast hlt

theorem zmod_modEq {m : Nat} (hm : 0 < m) (v : Int) : (zmod m v : Int) ≡ v [ZMOD m] := by
  rw [zmod_cast hm v]
  exact Int.mod_modEq v m

@[simp] theorem euclid_zero_right (fuel r0 : Nat) (t0 t1 : Int) : euclid fuel r0 0 t0 t1 = (r0, t0) := by
  cases fuel <;> rfl

theorem euclid_succ {r1 : Nat} (hr : r1 ≠ 0) (fuel r0 : Nat) (t0 t1 : Int) :
    euclid (fuel + 1) r0 r1 t0 t1 = euclid fuel r1 (r0 % r1) t1 (t0 - (r0 / r1 : Nat) * t1) :=
  if_neg hr

/-- The fuel is never spent: the second remainder falls strictly and stays below it. -/
theorem euclid_fst_eq_gcd {fuel r0 r1 : Nat} (t0 t1 : Int) (hfuel : r1 < fuel) :
    (euclid fuel r0 r1 t0 t1).1 = Nat.gcd r0 r1 := by
  induction fuel generalizing r0 r1 t0 t1 with
  | zero => omega
  | succ fuel ih =>
    by_cases hr : r1 = 0
    · simp [hr]
    · have hlt : r0 % r1 < r1 := Nat.mod_lt r0 (by omega)
      rw [euclid_succ hr, ih _ _ (by omega), Nat.gcd_comm r0 r1, Nat.gcd_rec r1 r0, Nat.gcd_comm]

/-- The loop invariant `r = t * d` modulo m, of both remainders with their cofactors, holds of the result. -/
theorem euclid_cofactor_modEq {m d : Int} {fuel r0 r1 : Nat} {t0 t1 : Int}
    (h0 : t0 * d ≡ r0 [ZMOD m]) (h1 : t1 * d ≡ r1 [ZMOD m]) :
    (euclid fuel r0 r1 t0 t1).2 * d ≡ (euclid fuel r0 r1 t0 t1).1 [ZMOD m] := by
  induction fuel generalizing r0 r1 t0 t1 with
  | zero => exact h0
  | succ fuel ih =>
    by_cases hr : r1 = 0
    · simpa [hr] using h0
    · rw [euclid_succ hr]
      refine ih h1 ?_
      calc (t0 - (r0 / r1 : Nat) * t1) * d
          = t0 * d - (r0 / r1 : Nat) * (t1 * d) := by ring
        _ ≡ r0 - (r0 / r1 : Nat) * r1 [ZMOD m] := h0.sub (h1.mul_left _)
        _ = (r0 % r1 : Nat) := by push_cast; rw [Int.emod_def]; ring

/-- The loop as `invMod` starts it ends at the gcd. -/
theorem euclid_fst_eq_gcd_of_start (m d : Nat) : (euclid (d % m + 1) m (d % m) 0 1).1 = Nat.gcd d m := by
  rw [euclid_fst_eq_gcd 0 1 (Nat.lt_succ_self _), Nat.gcd_comm, ← Nat.gcd_rec, Nat.gcd_comm]

/-- The loop as `invMod` starts it, from `m = 0 * d` and `d mod m = 1 * d`, ends with an inverse of d as cofactor. -/
theorem euclid_snd_mul_modEq_one {m d : Nat} (h : Nat.gcd d m = 1) :
    (euclid (d % m + 1) m (d % m) 0 1).2 * d ≡ 1 [ZMOD m] := by
  have hm : (0 : Int) * d ≡ m [ZMOD m] := by simp [Int.ModEq]
  have hd : (1 : Int) * d ≡ (d % m : Nat) [ZMOD m] := by simp [Int.ModEq]
  simpa [euclid_fst_eq_gcd_of_start, h] using euclid_cofactor_modEq (fuel := d % m + 1) hm hd

theorem invMod_of_gcd_ne_one {m d : Nat} (h : Nat.gcd d m ≠ 1) : invMod m d = .error .noInv :=
  if_neg (by rwa [euclid_fst_eq_gcd_of_start])

theorem invMod_of_gcd_eq_one {m d : Nat} (hm : 0 < m) (h : Nat.gcd d m = 1) :
    ∃ v, invMod m d = .ok v ∧ v < m ∧ d * v ≡ 1 [MOD m] := by
  refine ⟨_, if_pos (by rwa [euclid_fst_eq_gcd_of_start]), zmod_lt hm _, ?_⟩
  rw [mul_comm, ← Int.natCast_modEq_iff]
  exact_mod_cast ((zmod_modEq hm _).mul_right (d : Int)).trans (euclid_snd_mul_modEq_one h)

/-- Settles O45: the loop ends at the gcd, and its invariant makes the cofactor of a gcd 1 the inverse. -/
theorem inverseModulo : Obligations.InverseModulo := by
  unfold Obligations.InverseModulo
  intro m d hm
  refine ⟨fun h => ?_, invMod_of_gcd_ne_one⟩
  obtain ⟨v, hok, hlt, hinv⟩ := invMod_of_gcd_eq_one (by omega) h
  exact ⟨v, hok, hlt, Nat.mod_eq_of_modEq hinv hm⟩

end Sys2Proof.Machine
end

section
/-! PROOFS. What the rule of each command can write, said once for all commands: the successful outcomes of every rule,
command by command, and the place of a BER header inside its window (10_state.md R29, R30, R34; 47_ber.md R230). -/

namespace Sys2Proof.Machine

/-! ### The BER cursor moves forward inside its window -/

theorem berHighTag_length {bs rest : Bytes} {num n : Nat} (h : berHighTag bs num = some (n, rest)) :
    rest.length < bs.length := by
  induction bs generalizing num with
  | nil => simp [berHighTag] at h
  | cons c bs ih =>
    simp only [berHighTag] at h
    split at h
    · simp at h
    · split at h
      · exact (ih h).trans (by simp)
      · obtain ⟨-, rfl⟩ : _ ∧ bs = rest := by simpa using h
        simp

theorem berTagNumber_length {b0 : Byte} {bs rest : Bytes} {n : Nat} (h : berTagNumber b0 bs = some (n, rest)) :
    rest.length ≤ bs.length := by
  unfold berTagNumber at h
  split at h
  · exact (berHighTag_length h).le
  · obtain ⟨-, rfl⟩ : _ ∧ bs = rest := by simpa using h
    exact le_rfl

theorem berLength_length {bs rest : Bytes} {n : Nat} {indef : Bool} (h : berLength bs = some (n, indef, rest)) :
    rest.length < bs.length := by
  cases bs with
  | nil => simp [berLength] at h
  | cons l0 bs =>
    simp only [berLength] at h
    split_ifs at h <;> obtain ⟨-, -, rfl⟩ := by simpa using h
    all_goals simp

/-- A decoded header takes at least two bytes, and the content of a definite length ends inside the window (R231). -/
theorem berHeader_bounds {window : Bytes} {last : Nat} {h : BerHeader} (hw : window.length ≤ last)
    (hh : berHeader window last = some h) :
    last < h.cpos + window.length ∧ h.cpos ≤ last ∧ (h.indef = false → h.cpos + h.len ≤ last) := by
  unfold berHeader at hh
  split at hh
  · simp at hh
  · split at hh
    · simp at hh
    · have htag := berTagNumber_length ‹_›
      split at hh
      · simp at hh
      · have hlen := berLength_length ‹_›
        split at hh
        · simp at hh
        · rename_i hfit
          obtain rfl := by simpa using hh
          simp only [List.length_cons] at hw ⊢
          refine ⟨by omega, by omega, fun hdef => ?_⟩
          simp [hdef] at hfit ⊢
          omega

/-- The header of a legal window lies behind BER_POS and up to BER_END (R230). -/
theorem State.berHeader_bounds {s : State} {h : BerHeader} (hw : s.legalWindow) (hh : s.berHeader = some h) :
    s.berPos.toNat < h.cpos ∧ h.cpos ≤ s.berEnd.toNat ∧ (h.indef = false → h.cpos + h.len ≤ s.berEnd.toNat) := by
  have hlen : s.berBytes.length = s.berEnd.toNat - s.berPos.toNat := by simp [State.berBytes]
  obtain ⟨hpos, hend, hdef⟩ := Machine.berHeader_bounds (by omega) hh
  obtain ⟨-, hle⟩ := hw
  exact ⟨by omega, hend, hdef⟩

/-- A DMEM address up to BER_END fits in BER_POS. -/
theorem State.toNat_ofNat_of_le_berEnd {s : State} {n : Nat} (h : n ≤ s.berEnd.toNat) :
    (BitVec.ofNat 32 n).toNat = n := by
  rw [BitVec.toNat_ofNat, Nat.mod_eq_of_lt (h.trans_lt s.berEnd.isLt)]

/-! ### The writes of every rule -/

/-- What a successful or negative end of the command `i` in `s` can write: a verdict alone, one store inside DMEM, or
the writes of the commands that load a unit, clear all stores or consume a header. -/
inductive RuleWrites (s : State) : Instr → Effect → Prop
  | verdict (i : Instr) (b : Bool) : RuleWrites s i { result := b }
  | store (i : Instr) {a : Nat} {bs : Bytes} (inside : s.inRange a bs.length) :
      RuleWrites s i { result := true, dmem := some (a, bs) }
  | zeroize :
      RuleWrites s .zeroize
        { result := true
          dmem := some (0, zeroBytes s.params.dmemBytes)
          aes := some AesUnit.zero
          bf := some BfUnit.zero
          gh := some GhUnit.zero
          res := some ResRegs.zero }
  | aesKey {key : Bytes} (legal : aesKeyLenOk s key.length = true) :
      RuleWrites s .aesKey { result := true, aes := some (aesLoad key (key.length / 4)) }
  | bfKey {key : Bytes} (pos : 1 ≤ key.length) (le : key.length ≤ 56) :
      RuleWrites s .bfKey { result := true, bf := some (bfSchedule key) }
  | subkey {i : Instr} (hi : i = .ghSetH ∨ i = .ghDeriveH) (h : Block) :
      RuleWrites s i { result := true, gh := some { s.gh with h := h, hv := true } }
  | accumulator {i : Instr} (hi : i = .ghClear ∨ i = .ghLoadX ∨ i = .ghUpdate) (x : Block) :
      RuleWrites s i { result := true, gh := some { s.gh with x := x } }
  | consume {i : Instr} {h : BerHeader} (hi : i = .berTag ∨ i = .berSeq) (window : s.legalWindow)
      (header : s.berHeader = some h) : RuleWrites s i (berConsume h)
  | berInt {h : BerHeader} {l : Nat} (window : s.legalWindow) (header : s.berHeader = some h)
      (definite : h.indef = false) (inside : s.inRange (s.argN 0) l) : RuleWrites s .berInt (berIntEffect s h l)

theorem ruleAesKey_writes {s : State} {e : Effect} (h : ruleAesKey s = .ok e) : RuleWrites s .aesKey e := by
  simp only [ruleAesKey, bind_eq_ok, require_eq_ok, Except.ok.injEq] at h
  obtain ⟨-, hlegal, -, -, rfl⟩ := h
  simpa using RuleWrites.aesKey (key := s.memRead (s.argN 0) (s.argN 1)) (by simpa using hlegal)

theorem ruleBfKey_writes {s : State} {e : Effect} (h : ruleBfKey s = .ok e) : RuleWrites s .bfKey e := by
  simp only [ruleBfKey, bind_eq_ok, require_eq_ok, Except.ok.injEq, Bool.and_eq_true, decide_eq_true_eq] at h
  obtain ⟨-, ⟨hpos, hle⟩, -, -, rfl⟩ := h
  exact .bfKey (by simpa using hpos) (by simpa using hle)

theorem ruleAesBlock_writes {f : AesUnit → Bytes → Bytes} (hf : ∀ u b, (f u b).length = 16) (i : Instr) {s : State}
    {e : Effect} (h : ruleAesBlock f s = .ok e) : RuleWrites s i e := by
  obtain ⟨-, hout, -, rfl⟩ := ruleAesBlock_eq_ok.1 h
  exact .store i (by simpa [hf] using hout)

theorem ruleBfBlock_writes {f : BfUnit → Word → Word → Word × Word} (i : Instr) {s : State} {e : Effect}
    (h : ruleBfBlock f s = .ok e) : RuleWrites s i e := by
  obtain ⟨-, hout, -, rfl⟩ := ruleBfBlock_eq_ok.1 h
  exact .store i (by simpa using hout)

theorem ruleMx_writes {n : Nat} {f : Bytes → Bytes → Bytes} (hf : ∀ k u, (f k u).length = n) (i : Instr) {s : State}
    {e : Effect} (h : ruleMx n f s = .ok e) : RuleWrites s i e := by
  obtain ⟨-, -, hout, rfl⟩ := ruleMx_eq_ok.1 h
  exact .store i (by simpa [hf] using hout)

theorem ruleGhSetH_writes {s : State} {e : Effect} (h : ruleGhSetH s = .ok e) : RuleWrites s .ghSetH e := by
  simp only [ruleGhSetH, bind_eq_ok, Except.ok.injEq] at h
  obtain ⟨-, -, rfl⟩ := h
  exact .subkey (.inl rfl) _

theorem ruleGhDeriveH_writes {s : State} {e : Effect} (h : ruleGhDeriveH s = .ok e) : RuleWrites s .ghDeriveH e := by
  simp only [ruleGhDeriveH, bind_eq_ok, Except.ok.injEq] at h
  obtain ⟨-, -, rfl⟩ := h
  exact .subkey (.inr rfl) _

theorem ruleGhLoadX_writes {s : State} {e : Effect} (h : ruleGhLoadX s = .ok e) : RuleWrites s .ghLoadX e := by
  simp only [ruleGhLoadX, bind_eq_ok, Except.ok.injEq] at h
  obtain ⟨-, -, rfl⟩ := h
  exact .accumulator (.inr (.inl rfl)) _

theorem ruleGhUpdate_writes {s : State} {e : Effect} (h : ruleGhUpdate s = .ok e) : RuleWrites s .ghUpdate e := by
  simp only [ruleGhUpdate, bind_eq_ok, Except.ok.injEq] at h
  obtain ⟨-, -, -, -, rfl⟩ := h
  exact .accumulator (.inr (.inr rfl)) _

theorem ruleGhStoreX_writes {s : State} {e : Effect} (h : ruleGhStoreX s = .ok e) : RuleWrites s .ghStoreX e := by
  simp only [ruleGhStoreX, bind_eq_ok, checkRange_eq_ok, Except.ok.injEq] at h
  obtain ⟨-, hout, rfl⟩ := h
  exact .store _ (by simpa using hout)

theorem ruleGfMul_writes {s : State} {e : Effect} (h : ruleGfMul s = .ok e) : RuleWrites s .gfMul e := by
  simp only [ruleGfMul, bind_eq_ok, checkRange_eq_ok, Except.ok.injEq] at h
  obtain ⟨-, -, -, -, -, hout, rfl⟩ := h
  exact .store _ (by simpa using hout)

theorem ruleCtCompare_writes {s : State} {e : Effect} (h : ruleCtCompare s = .ok e) : RuleWrites s .ctCompare e := by
  simp only [ruleCtCompare, bind_eq_ok, Except.ok.injEq] at h
  obtain ⟨-, -, -, -, rfl⟩ := h
  exact .verdict _ _

theorem ruleModexp_writes {s : State} {e : Effect} (h : ruleModexp s = .ok e) : RuleWrites s .modexp e := by
  simp only [ruleModexp, bind_eq_ok, checkRange_eq_ok, Except.ok.injEq] at h
  obtain ⟨-, -, -, -, -, -, -, -, -, hout, -, -, rfl⟩ := h
  exact .store _ (by simpa using hout)

theorem ruleEcAdd_writes {v : Bool} {s : State} {e : Effect} (h : ruleEcAdd v s = .ok e) :
    RuleWrites s (.ecAdd v) e := by
  simp only [ruleEcAdd, bind_eq_ok, checkRange_eq_ok, Except.ok.injEq] at h
  obtain ⟨-, -, -, -, -, -, -, hout, -, -, -, -, -, -, -, -, -, -, -, -, -, -, rfl⟩ := h
  exact .store _ (by simpa [State.ecPointLen] using hout)

theorem ruleEcDbl_writes {v : Bool} {s : State} {e : Effect} (h : ruleEcDbl v s = .ok e) :
    RuleWrites s (.ecDbl v) e := by
  simp only [ruleEcDbl, bind_eq_ok, checkRange_eq_ok, Except.ok.injEq] at h
  obtain ⟨-, -, -, -, -, hout, -, -, -, -, -, -, -, -, -, -, rfl⟩ := h
  exact .store _ (by simpa [State.ecPointLen] using hout)

theorem ruleEcCheck_writes {s : State} {e : Effect} (h : ruleEcCheck s = .ok e) : RuleWrites s .ecCheck e := by
  simp only [ruleEcCheck, bind_eq_ok, Except.ok.injEq] at h
  obtain ⟨-, -, -, -, -, -, rfl⟩ := h
  exact .verdict _ _

theorem ruleBerTag_writes {s : State} {e : Effect} (h : ruleBerTag s = .ok e) : RuleWrites s .berTag e := by
  simp only [ruleBerTag, bind_eq_ok, berWindow_eq_ok] at h
  obtain ⟨-, hwindow, h⟩ := h
  split at h <;> obtain rfl := by simpa using h
  · exact .verdict _ _
  · exact .consume (.inl rfl) hwindow ‹_›

theorem ruleBerSeq_writes {s : State} {e : Effect} (h : ruleBerSeq s = .ok e) : RuleWrites s .berSeq e := by
  simp only [ruleBerSeq, bind_eq_ok, berWindow_eq_ok] at h
  obtain ⟨-, hwindow, h⟩ := h
  split at h
  · obtain rfl := by simpa using h
    exact .verdict _ _
  · split at h <;> obtain rfl := by simpa using h
    · exact .consume (.inr rfl) hwindow ‹_›
    · exact .verdict _ _

theorem ruleBerInt_writes {s : State} {e : Effect} (h : ruleBerInt s = .ok e) : RuleWrites s .berInt e := by
  simp only [ruleBerInt, bind_eq_ok, berWindow_eq_ok, checkRange_eq_ok] at h
  obtain ⟨-, -, -, hout, -, hwindow, h⟩ := h
  split at h
  · obtain rfl := by simpa using h
    exact .verdict _ _
  · split at h <;> obtain rfl := by simpa using h
    · rename_i haccepts
      simp only [berIntAccepts, Bool.and_eq_true, Bool.not_eq_true'] at haccepts
      obtain ⟨⟨-, hdefinite⟩, -⟩ := haccepts
      exact .berInt hwindow ‹_› hdefinite hout
    · exact .verdict _ _

/-- Every effect of a rule is one of the forms of `RuleWrites`. -/
theorem ruleOf_writes {i : Instr} {s : State} {e : Effect} (h : ruleOf i s = .ok e) : RuleWrites s i e := by
  cases i with
  | nop => obtain rfl : _ = e := Except.ok.inj h; exact .verdict _ _
  | zeroize => obtain rfl : _ = e := Except.ok.inj h; exact .zeroize
  | aesKey => exact ruleAesKey_writes h
  | aesEnc => exact ruleAesBlock_writes aesEncrypt_length _ h
  | aesDec => exact ruleAesBlock_writes aesDecrypt_length _ h
  | bfKey => exact ruleBfKey_writes h
  | bfEnc => exact ruleBfBlock_writes _ h
  | bfDec => exact ruleBfBlock_writes _ h
  | ghSetH => exact ruleGhSetH_writes h
  | ghDeriveH => exact ruleGhDeriveH_writes h
  | ghClear => obtain rfl : _ = e := Except.ok.inj h; exact .accumulator (.inl rfl) _
  | ghLoadX => exact ruleGhLoadX_writes h
  | ghUpdate => exact ruleGhUpdate_writes h
  | ghStoreX => exact ruleGhStoreX_writes h
  | gfMul => exact ruleGfMul_writes h
  | ctCompare => exact ruleCtCompare_writes h
  | ecAdd v => exact ruleEcAdd_writes h
  | ecDbl v => exact ruleEcDbl_writes h
  | ecCheck => exact ruleEcCheck_writes h
  | x25519 => exact ruleMx_writes x25519_length _ h
  | x448 => exact ruleMx_writes x448_length _ h
  | modexp => exact ruleModexp_writes h
  | berTag => exact ruleBerTag_writes h
  | berSeq => exact ruleBerSeq_writes h
  | berInt => exact ruleBerInt_writes h

end Sys2Proof.Machine
end

section
/-! PROOFS. The register block: one rule per register write, the bits of the words it reads, and the statements about
reset, identification, issue, STATUS, the map and the two windows (10_state.md R21 to R30; 20_memory.md R60 to R64). -/

namespace Sys2Proof.Machine

/-! ### One rule per register write -/

theorem State.idle_or_running (s : State) : s.phase = .idle ∨ s.phase = .running := by
  cases s.phase <;> simp

theorem State.busy_of_idle {s : State} (h : s.phase = .idle) : s.busy = false := by simp [State.busy, h]

theorem State.busy_of_running {s : State} (h : s.phase = .running) : s.busy = true := by simp [State.busy, h]

theorem csrWrite_ctrl_of_reset (s : State) {v : Word} (h : v.getLsbD 1 = true) :
    csrWrite s .ctrl v = s.softReset := if_pos h

theorem csrWrite_ctrl_of_not_reset (s : State) {v : Word} (h : v.getLsbD 1 = false) :
    csrWrite s .ctrl v = { s with irqEn := v.getLsbD 0 } := if_neg (by simpa using h)

theorem csrWrite_cmd_of_idle {s : State} (h : s.phase = .idle) (v : Word) : csrWrite s .cmd v = s.issue v :=
  if_neg (by simp [State.busy_of_idle h])

theorem csrWrite_cmd_of_running {s : State} (h : s.phase = .running) (v : Word) :
    csrWrite s .cmd v = { s with overrun := true } := if_pos (State.busy_of_running h)

theorem csrWrite_berPos_of_idle {s : State} (h : s.phase = .idle) (v : Word) :
    csrWrite s .berPos v = { s with berPos := v } := if_neg (by simp [State.busy_of_idle h])

theorem csrWrite_berPos_of_running {s : State} (h : s.phase = .running) (v : Word) :
    csrWrite s .berPos v = { s with accerr := true } := if_pos (State.busy_of_running h)

theorem csrWrite_berEnd_of_idle {s : State} (h : s.phase = .idle) (v : Word) :
    csrWrite s .berEnd v = { s with berEnd := v } := if_neg (by simp [State.busy_of_idle h])

theorem csrWrite_berEnd_of_running {s : State} (h : s.phase = .running) (v : Word) :
    csrWrite s .berEnd v = { s with accerr := true } := if_pos (State.busy_of_running h)

/-- The four kinds of register write: a soft reset, an issue, a clearing of STATUS bits, and one that sets the host's
registers or the bits OVERRUN and ACCERR and leaves everything else. -/
theorem csrWrite_cases (s : State) (c : Csr) (v : Word) :
    (c = .ctrl ∧ v.getLsbD 1 = true ∧ csrWrite s c v = s.softReset) ∨ csrWrite s c v = s.issue v ∨
      csrWrite s c v = s.clearStatus v ∨
      ∃ irqEn overrun accerr arg berPos berEnd, csrWrite s c v = { s with
        irqEn := irqEn, overrun := overrun, accerr := accerr, arg := arg, berPos := berPos, berEnd := berEnd } := by
  cases c with
  | ctrl =>
    cases hv : v.getLsbD 1 with
    | true => exact .inl ⟨rfl, rfl, csrWrite_ctrl_of_reset s hv⟩
    | false => exact .inr (.inr (.inr ⟨_, _, _, _, _, _, csrWrite_ctrl_of_not_reset s hv⟩))
  | status => exact .inr (.inr (.inl rfl))
  | cmd =>
    rcases s.idle_or_running with h | h
    · exact .inr (.inl (csrWrite_cmd_of_idle h v))
    · exact .inr (.inr (.inr ⟨_, _, _, _, _, _, csrWrite_cmd_of_running h v⟩))
  | berPos =>
    rcases s.idle_or_running with h | h
    · exact .inr (.inr (.inr ⟨_, _, _, _, _, _, csrWrite_berPos_of_idle h v⟩))
    · exact .inr (.inr (.inr ⟨_, _, _, _, _, _, csrWrite_berPos_of_running h v⟩))
  | berEnd =>
    rcases s.idle_or_running with h | h
    · exact .inr (.inr (.inr ⟨_, _, _, _, _, _, csrWrite_berEnd_of_idle h v⟩))
    · exact .inr (.inr (.inr ⟨_, _, _, _, _, _, csrWrite_berEnd_of_running h v⟩))
  | id | version | config | errcode | arg | res | reserved => exact .inr (.inr (.inr ⟨_, _, _, _, _, _, rfl⟩))

/-! ### The bits of the words that are computed -/

theorem flagAt_false (i : Nat) : flagAt false i = 0 := rfl

theorem flagAt_true (i : Nat) : flagAt true i = BitVec.twoPow 32 i := by
  apply BitVec.eq_of_toNat_eq
  simp [flagAt, BitVec.toNat_twoPow, Nat.shiftLeft_eq]

theorem flagAt_getLsbD (b : Bool) {i : Nat} (hi : i < 32) (j : Nat) : (flagAt b i).getLsbD j = (b && j == i) := by
  cases b with
  | false => simp [flagAt_false]
  | true => simp [flagAt_true, BitVec.getLsbD_twoPow, hi, eq_comm, Bool.beq_eq_decide_eq]

/-- STATUS, bit by bit (R25). -/
theorem statusWord_getLsbD (s : State) (j : Nat) :
    (statusWord s).getLsbD j =
      ((s.busy && j == 0) || (s.done && j == 1) || (s.err && j == 2) || (s.result && j == 3) || (s.aes.kv && j == 4) ||
        (s.bf.kv && j == 5) || (s.gh.hv && j == 6) || (s.overrun && j == 7) || (s.accerr && j == 8)) := by
  simp [statusWord, flagAt_getLsbD]

theorem statusWord_high (s : State) : statusWord s >>> 9 = 0 := by
  apply BitVec.eq_of_getLsbD_eq
  intro j _
  rw [BitVec.getLsbD_ushiftRight, statusWord_getLsbD]
  have hne : ∀ k, k < 9 → (9 + j == k) = false := fun k hk => by simp; omega
  simp [hne]

/-- ERRCODE is 0 exactly when there is no error (R251). -/
theorem errcodeWord_eq_zero (s : State) : errcodeWord s = 0 ↔ s.errcode = none := by
  unfold errcodeWord
  cases s.errcode with
  | none => simp
  | some c => cases c <;> simp [ErrCode.code]

/-! ### Reset -/

theorem statusWord_powerOn (p : Params) : statusWord (State.powerOn p) = 0 := by
  have hbusy : (State.powerOn p).busy = false := rfl
  simp [statusWord, hbusy, State.err, AesUnit.zero, BfUnit.zero, GhUnit.zero, flagAt_false]

/-- After power-on every register but ID, VERSION and CONFIG reads 0 (R42). -/
theorem csrRead_powerOn (p : Params) {c : Csr} (hid : c ≠ .id) (hversion : c ≠ .version) (hconfig : c ≠ .config) :
    csrRead (State.powerOn p) c = 0 := by
  cases c with
  | id => exact absurd rfl hid
  | version => exact absurd rfl hversion
  | config => exact absurd rfl hconfig
  | arg i => simp [csrRead]
  | res i => fin_cases i <;> rfl
  | status => exact statusWord_powerOn p
  | ctrl | errcode | cmd | berPos | berEnd | reserved => rfl

/-- Above offset 8 the map holds neither ID nor VERSION nor CONFIG (R21). -/
theorem csrAt_of_le {off : Nat} (h : 0x00C ≤ off) :
    csrAt off ≠ .id ∧ csrAt off ≠ .version ∧ csrAt off ≠ .config := by
  rw [csrAt, if_neg (by omega), if_neg (by omega), if_neg (by omega)]
  split_ifs <;> simp

/-- Settles O10: every field of the power-on state is written out, and above offset 8 every register reads 0. -/
theorem powerOnResetValues : Obligations.PowerOnResetValues := by
  unfold Obligations.PowerOnResetValues
  refine ⟨fun s => rfl, fun p => ⟨fun off _ hlow _ => ?_, rfl, rfl, rfl, rfl, rfl, rfl, rfl, rfl, rfl, fun x => rfl⟩⟩
  obtain ⟨hid, hversion, hconfig⟩ := csrAt_of_le hlow
  exact csrRead_powerOn p hid hversion hconfig

/-- With no command running a soft reset abandons none, so every DMEM byte stays (R281). -/
theorem softReset_sameDmem {s : State} (h : s.phase = .idle) : SameDmem s s.softReset := by
  have hkept : s.softReset.dmem = s.dmem := by simp [State.dmemAfterSoftReset, State.pendingOutput, h]
  intro x
  rw [State.readByte, hkept]
  rfl

/-- Settles O11: the write is the soft reset, whose state is the power-on state but for DMEM and the model's fields. -/
theorem softResetClearsAllButDmem : Obligations.SoftResetClearsAllButDmem := by
  unfold Obligations.SoftResetClearsAllButDmem
  intro s v hv
  exact ⟨s.softReset, csrWrite_ctrl_of_reset s hv, rfl, statusWord_powerOn s.params, rfl, rfl, softReset_sameDmem⟩

/-! ### Identification -/

/-- Two bit fields that do not overlap add up. -/
theorem or_shiftLeft_eq_add {a b i : Nat} (h : b < 2 ^ i) : b ||| a <<< i = b + a * 2 ^ i := by
  rw [Nat.or_comm, ← Nat.shiftLeft_add_eq_or_of_lt h, Nat.shiftLeft_eq, Nat.add_comm]

/-- The three fields of CONFIG do not overlap, so it is their sum (R23). -/
theorem configWord_toNat {p : Params} (h : p.wellFormed = true) :
    (configWord p).toNat = p.dmemBytes / 256 + p.lmax * 2 ^ 16 + p.aes192.toNat * 2 ^ 28 := by
  simp only [Params.wellFormed, Params.dmemOk, Params.lmaxOk, Bool.and_eq_true, decide_eq_true_eq] at h
  obtain ⟨⟨⟨-, hdmem⟩, -, hlmax⟩, -⟩ := h
  have hsize : (BitVec.ofNat 32 (p.dmemBytes / 256)).toNat = p.dmemBytes / 256 := by
    rw [BitVec.toNat_ofNat]; omega
  have hlength : (BitVec.ofNat 32 p.lmax <<< 16).toNat = p.lmax <<< 16 := by
    rw [BitVec.toNat_shiftLeft, BitVec.toNat_ofNat, Nat.shiftLeft_eq, Nat.shiftLeft_eq]; omega
  have hflag : (flagAt p.aes192 28).toNat = p.aes192.toNat <<< 28 := by cases p.aes192 <;> rfl
  rw [configWord, BitVec.toNat_or, BitVec.toNat_or, hsize, hlength, hflag,
    or_shiftLeft_eq_add (a := p.lmax) (by omega), or_shiftLeft_eq_add (by omega)]

/-- Settles O15: ID and VERSION are constants, and CONFIG is the sum of its fields. -/
theorem identificationRegisters : Obligations.IdentificationRegisters := by
  unfold Obligations.IdentificationRegisters
  refine fun s => ⟨rfl, rfl, fun h => ?_⟩
  rw [csrRead, configWord_toNat h]
  cases s.params.aes192 <;> simp

/-! ### Issue, STATUS and the map -/

/-- Settles O13: an idle write of CMD is the issue, a busy one sets OVERRUN. -/
theorem commandIssue : Obligations.CommandIssue := by
  unfold Obligations.CommandIssue
  refine fun s w => ⟨fun h => csrWrite_cmd_of_idle h w, fun h => csrWrite_cmd_of_running h w, rfl, ?_⟩
  cases h : s.phase with
  | idle => rw [csrWrite_cmd_of_idle h]; rfl
  | running => rw [csrWrite_cmd_of_running h]; rfl

/-- Settles O14: STATUS bit by bit. -/
theorem statusRegister : Obligations.StatusRegister := by
  unfold Obligations.StatusRegister
  intro s v
  have herr : s.err = (s.errcode != none) := by cases h : s.errcode <;> simp [State.err, h]
  simp only [csrRead, statusWord_getLsbD, statusWord_high]
  simp [State.busy, herr, csrWrite, State.clearStatus]

theorem csrAt_reserved {off : Nat} (h : 0x058 ≤ off) : csrAt off = .reserved := by
  unfold csrAt
  iterate 11 rw [if_neg (by omega)]

/-- ERRCODE reads by the table of R251. -/
theorem errcodeWord_table (s : State) :
    errcodeWord s = match s.errcode with
      | none => 0x00
      | some .badCmd => 0x01
      | some .keyLen => 0x02
      | some .noKey => 0x03
      | some .addr => 0x04
      | some .len => 0x05
      | some .modulus => 0x06
      | some .range => 0x07
      | some .point => 0x08
      | some .noInv => 0x09 := by
  unfold errcodeWord
  rcases s.errcode with _ | c
  · rfl
  · cases c <;> rfl

/-- STATUS.ERR is ERRCODE != 0 (R25). -/
theorem statusWord_err (s : State) : (statusWord s).getLsbD 2 = (errcodeWord s != 0) := by
  have hzero := errcodeWord_eq_zero s
  rw [statusWord_getLsbD]
  cases h : s.errcode <;> simp_all [State.err]

theorem ctrlWord_eq (s : State) : ctrlWord s = if s.irqEn then 1 else 0 := by
  cases h : s.irqEn <;> simp [ctrlWord, flagAt, h]

/-- Settles O16: the map offset by offset, and the rule of each register's read and write. -/
theorem registerMap : Obligations.RegisterMap := by
  unfold Obligations.RegisterMap
  refine ⟨⟨rfl, rfl, rfl, rfl, rfl, rfl, rfl, rfl, rfl, rfl, by decide, by decide, fun _ => csrAt_reserved⟩,
    fun s => ⟨rfl, errcodeWord_table s, statusWord_err s, ctrlWord_eq s, fun _ => rfl, rfl, rfl, rfl, rfl, rfl, rfl⟩,
    fun s v i j => ⟨?_, fun k hk => ?_, rfl, csrWrite_ctrl_of_not_reset s,
      fun h => ⟨csrWrite_berPos_of_idle h v, csrWrite_berEnd_of_idle h v⟩, rfl, rfl, rfl, rfl, rfl, rfl⟩⟩
  · simp [csrRead, csrWrite]
  · have hne : i.val ≠ k.val := fun h => hk (Fin.ext h.symm)
    simp [csrRead, csrWrite, Vector.getElem_set_ne _ _ hne]

/-! ### The two windows -/

theorem windowOf_csr (p : Params) {off : Nat} (h : off < 4096) : windowOf p (p.baseCsr + off) = .csr off := by
  rw [windowOf, if_pos (by omega), Nat.add_sub_cancel_left]

/-- An address of the DMEM window is in no other, as the windows are disjoint (log entry 2). -/
theorem windowOf_dmem {p : Params} (hp : p.wellFormed = true) {off : Nat} (h : off < p.dmemBytes) :
    windowOf p (p.baseDmem + off) = .dmem off := by
  have hdisjoint : p.baseCsr + 4096 ≤ p.baseDmem ∨ p.baseDmem + p.dmemBytes ≤ p.baseCsr := by
    simpa [Params.windowsOk] using (Bool.and_eq_true_iff.1 hp).2
  rw [windowOf, if_neg (by omega), if_pos (by omega), Nat.add_sub_cancel_left]

theorem csrAccessOk_iff {off size : Nat} : csrAccessOk off size = true ↔ size = 4 ∧ off % 4 = 0 := by
  simp [csrAccessOk]

theorem dmemAccessOk_iff {p : Params} {off size : Nat} :
    dmemAccessOk p off size = true ↔
      (size = 1 ∨ size = 2 ∨ size = 4) ∧ off % size = 0 ∧ off + size ≤ p.dmemBytes := by
  simp [dmemAccessOk, and_assoc, or_assoc]

/-- Settles O20: each address selects its window, and the window's check decides the access. -/
theorem hostProtocol : Obligations.HostProtocol := by
  unfold Obligations.HostProtocol
  rintro s addr size v hp
  refine ⟨fun off haddr hoff => ?_, fun off haddr hoff => ?_⟩
  · simp only [haddr, hostRead, hostWrite, windowOf_csr s.params hoff, ← csrAccessOk_iff]
    split <;> simp [*, State.reply]
  · simp only [haddr, hostRead, hostWrite, windowOf_dmem hp hoff, ← dmemAccessOk_iff]
    split <;> simp [*]

end Sys2Proof.Machine
end

section
/-! PROOFS. The invariant of the CORE (R25, R26, R29, R31, R33, R35, R40): it holds at reset, and completing a command,
a host access and a reset each keep it, so every step does. -/

namespace Sys2Proof.Machine

/-! ### At reset -/

theorem State.powerOn_inv (p : Params) : (State.powerOn p).Inv where
  dmemWf := List.Pairwise.nil
  dmemBelow := by simp
  aesLegal := .inl rfl
  bfLegal := .inl rfl
  subkey := fun _ => rfl
  errorResult := fun _ => rfl
  whileRunning := by simp
  res0High := by simp [ResRegs.zero]

/-- Settles O8: DMEM, the key stores and the outcome are empty. -/
theorem invariantHoldsAtReset : Obligations.InvariantHoldsAtReset :=
  ⟨State.powerOn_inv _, fun p _ => State.powerOn_inv p⟩

/-! ### What a rule's writes keep -/

theorem RuleWrites.dmem_inRange {s : State} {i : Instr} {e : Effect} (h : RuleWrites s i e) {a : Nat} {bs : Bytes}
    (he : e.dmem = some (a, bs)) : s.inRange a bs.length := by
  cases h with
  | store _ inside =>
    obtain ⟨rfl, rfl⟩ := by simpa using he
    exact inside
  | zeroize =>
    obtain ⟨rfl, rfl⟩ := by simpa using he
    simp
  | berInt _ _ _ inside =>
    obtain ⟨rfl, rfl⟩ := by simpa [berIntEffect] using he
    simpa using inside
  | verdict | aesKey | bfKey | subkey | accumulator | consume => simp [berConsume] at he

/-- AES_KEY loads the expansion of a key whose length it accepts (R126). -/
theorem aesLoad_legal {s : State} {key : Bytes} (h : aesKeyLenOk s key.length = true) :
    (aesLoad key (key.length / 4)).legal s.params := by
  refine .inr ⟨key, key.length / 4, ?_⟩
  simp only [aesKeyLenOk, Bool.or_eq_true, Bool.and_eq_true, beq_iff_eq] at h
  rcases h with (h | h) | ⟨h, h192⟩
  · simp [h]
  · simp [h]
  · simp [h, h192]

theorem RuleWrites.aes_legal {s : State} {i : Instr} {e : Effect} (h : RuleWrites s i e) (hs : s.aes.legal s.params) :
    (e.aes.getD s.aes).legal s.params := by
  cases h with
  | zeroize => exact .inl rfl
  | aesKey legal => exact aesLoad_legal legal
  | verdict | store | bfKey | subkey | accumulator | consume | berInt => exact hs

theorem RuleWrites.bf_legal {s : State} {i : Instr} {e : Effect} (h : RuleWrites s i e) (hs : s.bf.legal) :
    (e.bf.getD s.bf).legal := by
  cases h with
  | zeroize => exact .inl rfl
  | bfKey pos le => exact .inr ⟨_, pos, le, rfl⟩
  | verdict | store | aesKey | subkey | accumulator | consume | berInt => exact hs

theorem RuleWrites.gh_subkey {s : State} {i : Instr} {e : Effect} (h : RuleWrites s i e)
    (hs : s.gh.hv = false → s.gh.h = 0) : (e.gh.getD s.gh).hv = false → (e.gh.getD s.gh).h = 0 := by
  cases h with
  | zeroize => exact fun _ => rfl
  | subkey _ k => exact fun hv => nomatch hv
  | accumulator | verdict | store | aesKey | bfKey | consume | berInt => exact hs

/-- RES0 as set_res fills it (R233). -/
theorem berRes_res0_toNat (h : BerHeader) :
    (berRes h).res0.toNat = h.b0.toNat + h.cls.toNat * 2 ^ 8 + h.cons.toNat * 2 ^ 10 + h.indef.toNat * 2 ^ 11 := by
  have hb0 := h.b0.isLt
  have hcls := h.cls.isLt
  have hcons := h.cons.toNat_lt
  have hindef := h.indef.toNat_lt
  simp only [berRes, BitVec.toNat_add, BitVec.toNat_shiftLeft, BitVec.toNat_setWidth, BitVec.toNat_ofBool,
    BitVec.truncate_eq_setWidth, Nat.shiftLeft_eq]
  omega

theorem berRes_res0_high (h : BerHeader) : (berRes h).res0 >>> 12 = 0 := by
  have hlt : (berRes h).res0.toNat < 2 ^ 12 := by
    have hb0 := h.b0.isLt
    have hcls := h.cls.isLt
    have hcons := h.cons.toNat_lt
    have hindef := h.indef.toNat_lt
    rw [berRes_res0_toNat]
    omega
  apply BitVec.eq_of_toNat_eq
  rw [BitVec.toNat_ushiftRight, Nat.shiftRight_eq_div_pow, Nat.div_eq_of_lt hlt]
  rfl

theorem RuleWrites.res0_high {s : State} {i : Instr} {e : Effect} (h : RuleWrites s i e)
    (hs : s.res.res0 >>> 12 = 0) : (e.res.getD s.res).res0 >>> 12 = 0 := by
  cases h with
  | zeroize => simp [ResRegs.zero]
  | consume | berInt => exact berRes_res0_high _
  | verdict | store | aesKey | bfKey | subkey | accumulator => exact hs

/-! ### Completing a command -/

theorem State.Inv.memory_write {s : State} (h : s.Inv) {a : Nat} {bs : Bytes} (hin : s.inRange a bs.length) :
    (s.dmem.write a bs).wf ∧ (s.dmem.write a bs).below s.params.dmemBytes :=
  ⟨Memory.wf_write h.dmemWf a bs, Memory.below_write h.dmemBelow a bs hin⟩

theorem State.Inv.apply_dmem {s : State} {i : Instr} {e : Effect} (h : s.Inv) (hw : RuleWrites s i e) :
    (e.apply s).dmem.wf ∧ (e.apply s).dmem.below s.params.dmemBytes := by
  cases he : e.dmem with
  | none => rw [e.apply_dmem_none s he]; exact ⟨h.dmemWf, h.dmemBelow⟩
  | some w =>
    obtain ⟨a, bs⟩ := w
    rw [e.apply_dmem_some s a bs he]
    exact h.memory_write (hw.dmem_inRange he)

theorem State.Inv.completeOk {s : State} {i : Instr} {e : Effect} (h : s.Inv) (hw : RuleWrites s i e) :
    (s.completeOk e).Inv where
  dmemWf := (h.apply_dmem hw).1
  dmemBelow := (h.apply_dmem hw).2
  aesLegal := hw.aes_legal h.aesLegal
  bfLegal := hw.bf_legal h.bfLegal
  subkey := hw.gh_subkey h.subkey
  errorResult := by simp
  whileRunning := by simp
  res0High := hw.res0_high h.res0High

theorem State.Inv.completeError {s : State} (h : s.Inv) (c : ErrCode) : (s.completeError c).Inv :=
  { h with
    errorResult := fun _ => rfl
    whileRunning := by simp }

theorem ruleOfWord_writes {w : Word} {s : State} {e : Effect} (h : ruleOfWord w s = .ok e) :
    ∃ i, decode w = .ok i ∧ RuleWrites s i e := by
  unfold ruleOfWord at h
  split at h
  · exact ⟨_, ‹_›, ruleOf_writes h⟩
  · simp at h

theorem State.Inv.complete_ruleOfWord {s : State} (h : s.Inv) (w : Word) : (s.complete (ruleOfWord w s)).Inv := by
  cases hr : ruleOfWord w s with
  | ok e =>
    obtain ⟨i, -, hw⟩ := ruleOfWord_writes hr
    exact h.completeOk hw
  | error c => exact h.completeError c

/-! ### Host accesses and resets -/

/-- The output range of the running command is that of its rule's one MemWrite (R282). -/
theorem State.pendingOutput_eq_some {s : State} {a n : Nat} (h : s.pendingOutput = some (a, n)) :
    ∃ e bs, ruleOfWord s.cmdl s = .ok e ∧ e.dmem = some (a, bs) ∧ bs.length = n := by
  unfold State.pendingOutput at h
  split at h
  · simp at h
  · split at h
    · obtain ⟨bs, he, hn⟩ : ∃ bs : Bytes, _ = some (a, bs) ∧ bs.length = n := by simpa using h
      exact ⟨_, bs, ‹_›, he, hn⟩
    · simp at h

/-- An abandoned command leaves its draws inside DMEM (R282). -/
theorem State.Inv.dmemAfterSoftReset {s : State} (h : s.Inv) :
    s.dmemAfterSoftReset.wf ∧ s.dmemAfterSoftReset.below s.params.dmemBytes := by
  unfold State.dmemAfterSoftReset
  split
  · obtain ⟨e, bs, hr, he, hn⟩ := State.pendingOutput_eq_some ‹_›
    obtain ⟨i, -, hw⟩ := ruleOfWord_writes hr
    exact h.memory_write (by simpa [State.abandonedBytes, hn] using hw.dmem_inRange he)
  · exact ⟨h.dmemWf, h.dmemBelow⟩

theorem State.Inv.softReset {s : State} (h : s.Inv) : s.softReset.Inv :=
  { State.powerOn_inv s.params with
    dmemWf := h.dmemAfterSoftReset.1
    dmemBelow := h.dmemAfterSoftReset.2 }

theorem State.powerCycle_inv (s : State) : s.powerCycle.Inv := { State.powerOn_inv s.params with }

theorem State.Inv.issue {s : State} (h : s.Inv) (w : Word) : (s.issue w).Inv :=
  { h with
    errorResult := fun _ => rfl
    whileRunning := fun _ => ⟨rfl, rfl, rfl⟩ }

theorem State.Inv.clearStatus {s : State} (h : s.Inv) (v : Word) : (s.clearStatus v).Inv :=
  { h with
    whileRunning := fun hr => by
      obtain ⟨hdone, hresult, herr⟩ := h.whileRunning hr
      simp [hdone, hresult, herr] }

theorem State.Inv.csrWrite {s : State} (h : s.Inv) (c : Csr) (v : Word) : (csrWrite s c v).Inv := by
  obtain ⟨-, -, hreset⟩ | hissue | hclear | ⟨_, _, _, _, _, _, hset⟩ := csrWrite_cases s c v
  · exact hreset ▸ h.softReset
  · exact hissue ▸ h.issue v
  · exact hclear ▸ h.clearStatus v
  · rw [hset]
    exact { h with }

theorem State.Inv.dmemHostRead {s : State} (h : s.Inv) (off size : Nat) : (dmemHostRead s off size).Inv := by
  unfold Machine.dmemHostRead
  split <;> exact { h with }

theorem State.Inv.dmemHostWrite {s : State} (h : s.Inv) {off size : Nat} (hin : s.inRange off size) (v : Word) :
    (dmemHostWrite s off size v).Inv := by
  unfold Machine.dmemHostWrite
  split
  · exact { h with }
  · obtain ⟨hwf, hbelow⟩ := h.memory_write (a := off) (bs := leBytes size v.toNat) (by simpa using hin)
    exact { h with dmemWf := hwf, dmemBelow := hbelow }

theorem State.Inv.hostInput {s t : State} (h : s.Inv) {input : HostInput} (ht : hostInput s input = .next t) :
    t.Inv := by
  cases input with
  | read addr size =>
    obtain ⟨off, -, -, rfl⟩ | ⟨off, -, -, rfl⟩ := hostRead_cases ht
    · exact { h with }
    · exact h.dmemHostRead off size
  | write addr size v =>
    obtain ⟨off, -, -, rfl⟩ | ⟨off, -, hok, rfl⟩ := hostWrite_cases ht
    · exact h.csrWrite _ v
    · exact h.dmemHostWrite (dmemAccessOk_inside hok).1 v
  | powerOn =>
    obtain rfl : s.powerCycle = t := by simpa [Machine.hostInput] using ht
    exact s.powerCycle_inv

/-- Settles O9: completing a command keeps the invariant by the forms of `RuleWrites`, and so does every host input. -/
theorem everyStepKeepsTheInvariant : Obligations.EveryStepKeepsTheInvariant := by
  unfold Obligations.EveryStepKeepsTheInvariant
  intro s t h ht
  obtain ⟨-, he⟩ | ⟨input, rest, -, hi⟩ | ⟨-, rfl⟩ := step_cases ht
  · rw [engineStep_eq, Host.Outcome.next.injEq] at he
    exact he ▸ h.complete_ruleOfWord s.cmdl
  · have hrest : { s with inbox := rest }.Inv := { h with }
    exact hrest.hostInput hi
  · exact h

end Sys2Proof.Machine
end

section
/-! PROOFS. What a command, a host access and a step leave unchanged: the host's registers (R24, R27, R30, R38), the
results and the BER cursor (R29, R30), and the key stores (R34). -/

namespace Sys2Proof.Machine

/-! ### The registers a command may not write -/

/-- Settles O24: both ways a command completes write only outcome bits and the fields of an `Effect`. -/
theorem commandsKeepTheHostsRegisters : Obligations.CommandsKeepTheHostsRegisters := by
  unfold Obligations.CommandsKeepTheHostsRegisters
  intro i s t h
  obtain ⟨e, -, rfl⟩ | ⟨c, -, rfl⟩ := exec_cases h <;> simp

theorem RuleWrites.res_changes {s : State} {i : Instr} {e : Effect} (h : RuleWrites s i e)
    (hres : e.res.getD s.res ≠ s.res) :
    i = .zeroize ∨ (e.result = true ∧ (i = .berTag ∨ i = .berSeq ∨ i = .berInt)) := by
  cases h with
  | zeroize => exact .inl rfl
  | consume hi => exact .inr ⟨rfl, by tauto⟩
  | berInt => exact .inr ⟨rfl, by simp⟩
  | verdict | store | aesKey | bfKey | subkey | accumulator => exact absurd rfl hres

theorem RuleWrites.berPos_changes {s : State} {i : Instr} {e : Effect} (h : RuleWrites s i e)
    (hpos : e.berPos.getD s.berPos ≠ s.berPos) :
    e.result = true ∧ (i = .berTag ∨ i = .berSeq ∨ i = .berInt) ∧
      s.berPos.toNat < (e.berPos.getD s.berPos).toNat ∧ (e.berPos.getD s.berPos).toNat ≤ s.berEnd.toNat := by
  cases h with
  | @consume i h hi window header =>
    obtain ⟨hlt, hle, -⟩ := State.berHeader_bounds window header
    have hcpos : (BitVec.ofNat 32 h.cpos).toNat = h.cpos := State.toNat_ofNat_of_le_berEnd hle
    exact ⟨rfl, by tauto, by simpa [berConsume, hcpos] using ⟨hlt, hle⟩⟩
  | @berInt h l window header definite _ =>
    obtain ⟨hlt, -, hle⟩ := State.berHeader_bounds window header
    have hnext : (BitVec.ofNat 32 (h.cpos + h.len)).toNat = h.cpos + h.len :=
      State.toNat_ofNat_of_le_berEnd (hle definite)
    refine ⟨rfl, by simp, ?_⟩
    simp only [berIntEffect, Option.getD_some, hnext]
    exact ⟨by omega, hle definite⟩
  | verdict | store | zeroize | aesKey | bfKey | subkey | accumulator => exact absurd rfl hpos

/-- Settles O25: of the forms of `RuleWrites` only ZEROIZE and the consumed headers write RES or BER_POS. -/
theorem onlyBerCommandsWriteResults : Obligations.OnlyBerCommandsWriteResults := by
  unfold Obligations.OnlyBerCommandsWriteResults
  intro i s t h
  obtain ⟨e, he, rfl⟩ | ⟨c, -, rfl⟩ := exec_cases h
  · exact ⟨(ruleOf_writes he).res_changes, (ruleOf_writes he).berPos_changes⟩
  · simp

/-! ### The key stores -/

theorem RuleWrites.aes_changes {s : State} {i : Instr} {e : Effect} (h : RuleWrites s i e)
    (haes : e.aes.getD s.aes ≠ s.aes) : i ∈ [.aesKey, .zeroize] := by
  cases h with
  | zeroize | aesKey => simp
  | verdict | store | bfKey | subkey | accumulator | consume | berInt => exact absurd rfl haes

theorem RuleWrites.bf_changes {s : State} {i : Instr} {e : Effect} (h : RuleWrites s i e)
    (hbf : e.bf.getD s.bf ≠ s.bf) : i ∈ [.bfKey, .zeroize] := by
  cases h with
  | zeroize | bfKey => simp
  | verdict | store | aesKey | subkey | accumulator | consume | berInt => exact absurd rfl hbf

theorem RuleWrites.subkey_changes {s : State} {i : Instr} {e : Effect} (h : RuleWrites s i e)
    (hgh : (e.gh.getD s.gh).h ≠ s.gh.h ∨ (e.gh.getD s.gh).hv ≠ s.gh.hv) : i ∈ [.ghSetH, .ghDeriveH, .zeroize] := by
  cases h with
  | zeroize => simp
  | subkey hi => rcases hi with rfl | rfl <;> simp
  | verdict | store | aesKey | bfKey | accumulator | consume | berInt => simp [berConsume, berIntEffect] at hgh

theorem RuleWrites.accumulator_changes {s : State} {i : Instr} {e : Effect} (h : RuleWrites s i e)
    (hx : (e.gh.getD s.gh).x ≠ s.gh.x) : i ∈ [.ghClear, .ghLoadX, .ghUpdate, .zeroize] := by
  cases h with
  | zeroize => simp
  | accumulator hi => rcases hi with rfl | rfl | rfl <;> simp
  | verdict | store | aesKey | bfKey | subkey | consume | berInt => exact absurd rfl hx

/-- `t` holds the key stores of `s`. -/
def State.sameStores (s t : State) : Prop := t.aes = s.aes ∧ t.bf = s.bf ∧ t.gh = s.gh

/-- Only a soft reset writes a key store through a register. -/
theorem csrWrite_sameStores (s : State) (c : Csr) (v : Word) :
    (c = .ctrl ∧ v.getLsbD 1 = true) ∨ s.sameStores (csrWrite s c v) := by
  obtain ⟨hc, hv, -⟩ | hw | hw | ⟨_, _, _, _, _, _, hw⟩ := csrWrite_cases s c v
  · exact .inl ⟨hc, hv⟩
  all_goals
    rw [hw]
    exact .inr ⟨rfl, rfl, rfl⟩

theorem dmemHostRead_sameStores (s : State) (off size : Nat) : s.sameStores (dmemHostRead s off size) := by
  unfold dmemHostRead
  split <;> exact ⟨rfl, rfl, rfl⟩

theorem dmemHostWrite_sameStores (s : State) (off size : Nat) (v : Word) :
    s.sameStores (dmemHostWrite s off size v) := by
  unfold dmemHostWrite
  split <;> exact ⟨rfl, rfl, rfl⟩

/-- A host input that is no reset leaves the key stores alone. -/
theorem hostInput_sameStores {s t : State} {input : HostInput} (h : hostInput s input = .next t) :
    input = .powerOn ∨
      (∃ addr size v off, input = .write addr size v ∧ windowOf s.params addr = .csr off ∧ csrAt off = .ctrl ∧
        v.getLsbD 1 = true) ∨
      s.sameStores t := by
  cases input with
  | read addr size =>
    obtain ⟨off, -, -, rfl⟩ | ⟨off, -, -, rfl⟩ := hostRead_cases h
    · exact .inr (.inr ⟨rfl, rfl, rfl⟩)
    · exact .inr (.inr (dmemHostRead_sameStores s off size))
  | write addr size v =>
    obtain ⟨off, hwin, -, rfl⟩ | ⟨off, -, -, rfl⟩ := hostWrite_cases h
    · obtain ⟨hctrl, hv⟩ | hsame := csrWrite_sameStores s (csrAt off) v
      · exact .inr (.inl ⟨addr, size, v, off, rfl, hwin, hctrl, hv⟩)
      · exact .inr (.inr hsame)
    · exact .inr (.inr (dmemHostWrite_sameStores s off size v))
  | powerOn => exact .inl rfl

/-- What one step does to the key stores: a command completes with its writes, a reset moves, or they stay. -/
theorem step_stores {s t : State} (h : step s = .next t) :
    (∃ i e, turn s = .engine ∧ decode s.cmdl = .ok i ∧ RuleWrites s i e ∧ t = s.completeOk e) ∨ s.resetMoves ∨
      s.sameStores t := by
  obtain ⟨hturn, he⟩ | ⟨input, rest, hturn, hi⟩ | ⟨-, rfl⟩ := step_cases h
  · obtain ⟨i, hdec, hexec⟩ | ⟨_, -, rfl⟩ := engineStep_cases he
    · obtain ⟨e, hr, rfl⟩ | ⟨c, -, rfl⟩ := exec_cases hexec
      · exact .inl ⟨i, e, hturn, hdec, ruleOf_writes hr, rfl⟩
      · exact .inr (.inr ⟨rfl, rfl, rfl⟩)
    · exact .inr (.inr ⟨rfl, rfl, rfl⟩)
  · obtain rfl | ⟨addr, size, v, off, rfl, hwin, hctrl, hv⟩ | hsame := hostInput_sameStores hi
    · exact .inr (.inl (.inl ⟨rest, hturn⟩))
    · exact .inr (.inl (.inr ⟨addr, size, v, rest, off, hturn, hwin, hctrl, hv⟩))
    · exact .inr (.inr hsame)
  · exact .inr (.inr ⟨rfl, rfl, rfl⟩)

/-- Settles O26: a completing command writes a store only in the form of `RuleWrites` that is its own. -/
theorem keyStoresChangeOnlyByTheirOwnCommands : Obligations.KeyStoresChangeOnlyByTheirOwnCommands := by
  unfold Obligations.KeyStoresChangeOnlyByTheirOwnCommands
  intro s t h
  obtain ⟨i, e, hturn, hdec, hw, rfl⟩ | hreset | ⟨haes, hbf, hgh⟩ := step_stores h
  · have completes : ∀ {cs}, i ∈ cs → s.completes cs ∨ s.resetMoves := fun hi => .inl ⟨hturn, i, hi, hdec⟩
    exact ⟨fun h => completes (hw.aes_changes h), fun h => completes (hw.bf_changes h),
      fun h => completes (hw.subkey_changes h), fun h => completes (hw.accumulator_changes h)⟩
  · exact ⟨fun _ => .inr hreset, fun _ => .inr hreset, fun _ => .inr hreset, fun _ => .inr hreset⟩
  · simp [haes, hbf, hgh]

end Sys2Proof.Machine
end

section
/-! PROOFS. RK, the Blowfish tables and H stay inside the CORE (10_state.md R32): no register read, host write or check
of a rule reads them, and only the cipher commands and GH_UPDATE let them into what they write. -/

namespace Sys2Proof.Machine

/-- `s` with other round keys, Blowfish tables and subkey. -/
def State.withKeys (s : State) (rk : Vector Word 60) (p : Vector Word 18) (sb : Vector (Vector Word 256) 4)
    (h : Block) : State :=
  { s with aes := { s.aes with rk := rk }, bf := { s.bf with p := p, s := sb }, gh := { s.gh with h := h } }

theorem State.agreeButKeys_iff {s t : State} : s.agreeButKeys t ↔ ∃ rk p sb h, t = s.withKeys rk p sb h := Iff.rfl

theorem State.agreeButKeys.refl (s : State) : s.agreeButKeys s := ⟨_, _, _, _, rfl⟩

theorem State.agreeButKeys.ite {c : Prop} [Decidable c] {a a' b b' : State} (ha : a.agreeButKeys a')
    (hb : b.agreeButKeys b') : (if c then a else b).agreeButKeys (if c then a' else b') := by
  split
  · exact ha
  · exact hb

theorem State.agreeButKeys.replies_eq {s t : State} (h : s.agreeButKeys t) : t.replies = s.replies := by
  obtain ⟨rk, p, sb, k, rfl⟩ := h
  rfl

theorem State.agreeButKeys.with_dmem {s t : State} (h : s.agreeButKeys t) :
    { s with dmem := t.dmem }.agreeButKeys t := by
  obtain ⟨rk, p, sb, k, rfl⟩ := h
  exact ⟨rk, p, sb, k, rfl⟩

theorem State.agreeButKeys.with_x {s t : State} (h : s.agreeButKeys t) :
    { s with gh := { s.gh with x := t.gh.x } }.agreeButKeys t := by
  obtain ⟨rk, p, sb, k, rfl⟩ := h
  exact ⟨rk, p, sb, k, rfl⟩

theorem State.agreeButKeys.sameDmemOutside {s t : State} (h : s.agreeButKeys t) (a n : Nat) :
    SameDmemOutside s t a n := by
  obtain ⟨rk, p, sb, k, rfl⟩ := h
  exact fun x _ => rfl

/-! ### The outcomes of a rule in two such states -/

/-- How the outcomes of a command's rule compare in two states that differ only in their keys: they are the same, or
both store a block at arg[1], or both load the GH unit, with the same X but for GH_UPDATE. -/
inductive OutcomesAgree (s : State) : Instr → Except ErrCode Effect → Except ErrCode Effect → Prop
  | same (i : Instr) (r : Except ErrCode Effect) : OutcomesAgree s i r r
  | aesBlock {i : Instr} (hi : i = .aesEnc ∨ i = .aesDec) {bs bs' : Bytes} (len : bs.length = 16)
      (len' : bs'.length = 16) :
      OutcomesAgree s i (.ok { result := true, dmem := some (s.argN 1, bs) })
        (.ok { result := true, dmem := some (s.argN 1, bs') })
  | bfBlock {i : Instr} (hi : i = .bfEnc ∨ i = .bfDec) {bs bs' : Bytes} (len : bs.length = 8)
      (len' : bs'.length = 8) :
      OutcomesAgree s i (.ok { result := true, dmem := some (s.argN 1, bs) })
        (.ok { result := true, dmem := some (s.argN 1, bs') })
  | load {i : Instr} (hi : i = .ghDeriveH ∨ i = .ghClear ∨ i = .ghLoadX) (g : GhUnit) (h : Block) :
      OutcomesAgree s i (.ok { result := true, gh := some g }) (.ok { result := true, gh := some { g with h := h } })
  | fold (g : GhUnit) (h x : Block) :
      OutcomesAgree s .ghUpdate (.ok { result := true, gh := some g })
        (.ok { result := true, gh := some { g with h := h, x := x } })

/-- A check that both rules begin with decides them alike. -/
theorem OutcomesAgree.bind {s : State} {i : Instr} {α : Type} {x : Except ErrCode α}
    {f g : α → Except ErrCode Effect} (h : ∀ a, OutcomesAgree s i (f a) (g a)) :
    OutcomesAgree s i (x >>= f) (x >>= g) := by
  cases x with
  | ok a => exact h a
  | error c => exact .same i (.error c)

section
variable (s : State) (rk : Vector Word 60) (p : Vector Word 18) (sb : Vector (Vector Word 256) 4) (h : Block)

theorem ruleAesBlock_outcomesAgree {f : AesUnit → Bytes → Bytes} (hf : ∀ u b, (f u b).length = 16) {i : Instr}
    (hi : i = .aesEnc ∨ i = .aesDec) :
    OutcomesAgree s i (ruleAesBlock f s) (ruleAesBlock f (s.withKeys rk p sb h)) :=
  .bind fun _ => .bind fun _ => .bind fun _ => .aesBlock hi (hf _ _) (hf _ _)

theorem ruleBfBlock_outcomesAgree (f : BfUnit → Word → Word → Word × Word) {i : Instr}
    (hi : i = .bfEnc ∨ i = .bfDec) :
    OutcomesAgree s i (ruleBfBlock f s) (ruleBfBlock f (s.withKeys rk p sb h)) :=
  .bind fun _ => .bind fun _ => .bind fun _ => .bfBlock hi (bfBlock_length _ _) (bfBlock_length _ _)

/-- The rules of all other commands read no key: they are the same function of both states. -/
theorem ruleOf_outcomesAgree (i : Instr) : OutcomesAgree s i (ruleOf i s) (ruleOf i (s.withKeys rk p sb h)) := by
  cases i with
  | aesEnc => exact ruleAesBlock_outcomesAgree s rk p sb h aesEncrypt_length (.inl rfl)
  | aesDec => exact ruleAesBlock_outcomesAgree s rk p sb h aesDecrypt_length (.inr rfl)
  | bfEnc => exact ruleBfBlock_outcomesAgree s rk p sb h bfEncryptWords (.inl rfl)
  | bfDec => exact ruleBfBlock_outcomesAgree s rk p sb h bfDecryptWords (.inr rfl)
  | ghDeriveH => exact .bind fun _ => .load (.inl rfl) _ _
  | ghClear => exact .load (.inr (.inl rfl)) _ _
  | ghLoadX => exact .bind fun _ => .load (.inr (.inr rfl)) _ _
  | ghUpdate => exact .bind fun _ => .bind fun _ => .fold _ _ _
  | nop | zeroize | aesKey | bfKey | ghSetH | ghStoreX | gfMul | ctCompare | ecAdd | ecDbl | ecCheck | x25519 | x448
  | modexp | berTag | berSeq | berInt => exact .same _ _

/-! ### Host inputs in two such states -/

/-- A soft reset abandons the same output range, whose bytes are draws (R282). -/
theorem pendingOutput_withKeys : (s.withKeys rk p sb h).pendingOutput = s.pendingOutput := by
  have hphase : (s.withKeys rk p sb h).phase = s.phase := rfl
  have hcmdl : (s.withKeys rk p sb h).cmdl = s.cmdl := rfl
  simp only [State.pendingOutput, ruleOfWord, hphase, hcmdl]
  split
  · rfl
  · cases decode s.cmdl with
    | error _ => rfl
    | ok i =>
      have hagree := ruleOf_outcomesAgree s rk p sb h i
      dsimp only
      generalize ruleOf i s = r, ruleOf i (s.withKeys rk p sb h) = r' at hagree ⊢
      cases hagree with
      | same => rfl
      | aesBlock _ len len' | bfBlock _ len len' => simp [len, len']
      | load | fold => rfl

theorem softReset_withKeys : (s.withKeys rk p sb h).softReset = s.softReset := by
  unfold State.softReset State.dmemAfterSoftReset
  rw [pendingOutput_withKeys]
  rfl

theorem csrRead_withKeys (c : Csr) : csrRead (s.withKeys rk p sb h) c = csrRead s c := by
  cases c <;> rfl

theorem csrWrite_withKeys (c : Csr) (v : Word) :
    (csrWrite s c v).agreeButKeys (csrWrite (s.withKeys rk p sb h) c v) := by
  cases c with
  | ctrl =>
    refine .ite ?_ ⟨rk, p, sb, h, rfl⟩
    rw [softReset_withKeys]
    exact .refl _
  | cmd | berPos | berEnd => exact .ite ⟨rk, p, sb, h, rfl⟩ ⟨rk, p, sb, h, rfl⟩
  | id | version | config | status | errcode | arg | res | reserved => exact ⟨rk, p, sb, h, rfl⟩

/-- The outcomes of a host input in two states that differ only in their keys. -/
inductive InputsAgree : Host.Outcome State Fault Refusal → Host.Outcome State Fault Refusal → Prop
  | next {t t' : State} (agree : t.agreeButKeys t') : InputsAgree (.next t) (.next t')
  | refused (r : Refusal) : InputsAgree (.refused r) (.refused r)

/-- An access check decides both accesses alike. -/
theorem InputsAgree.guard {c : Prop} [Decidable c] {t t' : State} {r : Refusal} (ht : t.agreeButKeys t') :
    InputsAgree (if c then .next t else .refused r) (if c then .next t' else .refused r) := by
  split
  · exact .next ht
  · exact .refused r

theorem hostRead_withKeys (addr size : Nat) :
    InputsAgree (hostRead s addr size) (hostRead (s.withKeys rk p sb h) addr size) := by
  have hparams : (s.withKeys rk p sb h).params = s.params := rfl
  simp only [hostRead, hparams, csrRead_withKeys]
  cases windowOf s.params addr with
  | csr off => exact .guard ⟨rk, p, sb, h, rfl⟩
  | dmem off => exact .guard (.ite ⟨rk, p, sb, h, rfl⟩ ⟨rk, p, sb, h, rfl⟩)
  | outside => exact .refused _

theorem hostWrite_withKeys (addr size : Nat) (v : Word) :
    InputsAgree (hostWrite s addr size v) (hostWrite (s.withKeys rk p sb h) addr size v) := by
  have hparams : (s.withKeys rk p sb h).params = s.params := rfl
  simp only [hostWrite, hparams]
  cases windowOf s.params addr with
  | csr off => exact .guard (csrWrite_withKeys s rk p sb h _ v)
  | dmem off => exact .guard (.ite ⟨rk, p, sb, h, rfl⟩ ⟨rk, p, sb, h, rfl⟩)
  | outside => exact .refused _

theorem hostInput_withKeys (input : HostInput) :
    InputsAgree (hostInput s input) (hostInput (s.withKeys rk p sb h) input) := by
  cases input with
  | read addr size => exact hostRead_withKeys s rk p sb h addr size
  | write addr size v => exact hostWrite_withKeys s rk p sb h addr size v
  | powerOn => exact .next (.refl _)

end

/-! ### Commands in two such states -/

theorem aes_getD_withRk (o : Option AesUnit) (u : AesUnit) (rk : Vector Word 60) :
    ∃ rk', o.getD { u with rk := rk } = { o.getD u with rk := rk' } := by
  cases o with
  | none => exact ⟨rk, rfl⟩
  | some w => exact ⟨w.rk, rfl⟩

theorem bf_getD_withTables (o : Option BfUnit) (u : BfUnit) (p : Vector Word 18) (sb : Vector (Vector Word 256) 4) :
    ∃ p' sb', o.getD { u with p := p, s := sb } = { o.getD u with p := p', s := sb' } := by
  cases o with
  | none => exact ⟨p, sb, rfl⟩
  | some w => exact ⟨w.p, w.s, rfl⟩

theorem gh_getD_withH (o : Option GhUnit) (u : GhUnit) (h : Block) :
    ∃ h', o.getD { u with h := h } = { o.getD u with h := h' } := by
  cases o with
  | none => exact ⟨h, rfl⟩
  | some w => exact ⟨w.h, rfl⟩

/-- The same outcome completes two such states alike: a unit it loads becomes equal. -/
theorem State.agreeButKeys.complete {s s' : State} (h : s.agreeButKeys s') (r : Except ErrCode Effect) :
    (s.complete r).agreeButKeys (s'.complete r) := by
  obtain ⟨rk, p, sb, k, rfl⟩ := h
  cases r with
  | error c => exact ⟨rk, p, sb, k, rfl⟩
  | ok e =>
    obtain ⟨rk', haes⟩ := aes_getD_withRk e.aes s.aes rk
    obtain ⟨p', sb', hbf⟩ := bf_getD_withTables e.bf s.bf p sb
    obtain ⟨k', hgh⟩ := gh_getD_withH e.gh s.gh k
    refine ⟨rk', p', sb', k', ?_⟩
    simp only [State.complete, State.completeOk, Effect.apply, State.finish, haes, hbf, hgh]

/-- Two such states in which a command stores blocks of `n` bytes at the same address differ there alone. -/
theorem State.agreeButKeys.store {s s' : State} (h : s.agreeButKeys s') {a n : Nat} {bs bs' : Bytes}
    (len : bs.length = n) (len' : bs'.length = n) :
    let t := s.completeOk { result := true, dmem := some (a, bs) }
    let t' := s'.completeOk { result := true, dmem := some (a, bs') }
    { t with dmem := t'.dmem }.agreeButKeys t' ∧ SameDmemOutside t t' a n := by
  obtain ⟨rk, p, sb, k, rfl⟩ := h
  refine ⟨⟨rk, p, sb, k, rfl⟩, fun x hx => ?_⟩
  have hs := State.readByte_of_write_outside s
    (s.completeOk { result := true, dmem := some (a, bs) }) a bs rfl rfl x (by rwa [len])
  have hs' := State.readByte_of_write_outside (s.withKeys rk p sb k)
    ((s.withKeys rk p sb k).completeOk { result := true, dmem := some (a, bs') }) a bs' rfl rfl x (by rwa [len'])
  exact hs'.trans hs.symm

/-- Settles O21: host inputs agree, and the two outcomes of a rule agree but for the stored block and the X that R32
names. -/
theorem keysShowOnlyInCipherOutputs : Obligations.KeysShowOnlyInCipherOutputs := by
  unfold Obligations.KeysShowOnlyInCipherOutputs
  intro s s' hs
  obtain ⟨rk, p, sb, k, rfl⟩ := State.agreeButKeys_iff.1 hs
  refine ⟨fun input => ?_, fun i t ht => ?_⟩
  · have hinput := hostInput_withKeys s rk p sb k input
    generalize hostInput s input = o, hostInput (s.withKeys rk p sb k) input = o' at hinput ⊢
    cases hinput with
    | next agree => exact ⟨_, rfl, agree, agree.replies_eq⟩
    | refused r => rfl
  · rw [exec_eq, Host.Outcome.next.injEq] at ht
    subst ht
    refine ⟨_, exec_eq _ _, ?_⟩
    have hagree := ruleOf_outcomesAgree s rk p sb k i
    generalize ruleOf i s = r, ruleOf i (s.withKeys rk p sb k) = r' at hagree ⊢
    cases hagree with
    | same =>
      have h := hs.complete r
      exact ⟨fun _ => h, fun _ => ⟨h.with_dmem, h.sameDmemOutside _ _⟩, fun _ => ⟨h.with_dmem, h.sameDmemOutside _ _⟩,
        fun _ => h.with_x⟩
    | aesBlock hi len len' =>
      refine ⟨?_, fun _ => hs.store len len', ?_, ?_⟩ <;> rcases hi with rfl | rfl <;> simp
    | bfBlock hi len len' =>
      refine ⟨?_, ?_, fun _ => hs.store len len', ?_⟩ <;> rcases hi with rfl | rfl <;> simp
    | load hi g h' =>
      refine ⟨fun _ => ⟨rk, p, sb, h', rfl⟩, ?_, ?_, ?_⟩ <;> rcases hi with rfl | rfl | rfl <;> simp
    | fold g h' x => exact ⟨by simp, by simp, by simp, fun _ => ⟨rk, p, sb, h', rfl⟩⟩

end Sys2Proof.Machine
end

section
/-! PROOFS. The host's accesses to DMEM, idle and busy, and the order of its inputs (20_memory.md R60 to R66, R80;
60_exceptions.md R274). -/

namespace Sys2Proof.Machine

/-! ### One rule per DMEM access -/

theorem dmemHostWrite_of_idle {s : State} (h : s.phase = .idle) (off size : Nat) (v : Word) :
    dmemHostWrite s off size v = { s with dmem := s.dmem.write off (leBytes size v.toNat) } :=
  if_neg (by simp [State.busy_of_idle h])

theorem dmemHostWrite_of_running {s : State} (h : s.phase = .running) (off size : Nat) (v : Word) :
    dmemHostWrite s off size v = { s with accerr := true } := if_pos (State.busy_of_running h)

theorem dmemHostRead_of_idle {s : State} (h : s.phase = .idle) (off size : Nat) :
    dmemHostRead s off size = s.reply (dmemValue s off size) := if_neg (by simp [State.busy_of_idle h])

theorem dmemHostRead_of_running {s : State} (h : s.phase = .running) (off size : Nat) :
    dmemHostRead s off size = { s with accerr := true, draws := s.draws + 1 }.reply (busyValue s size) :=
  if_pos (State.busy_of_running h)

/-- Settles O18: each access is its rule in a running CORE, the word read being the draw `busyValue`. -/
theorem busyDmemAccessesAndBerWritesAreDropped : Obligations.BusyDmemAccessesAndBerWritesAreDropped := by
  unfold Obligations.BusyDmemAccessesAndBerWritesAreDropped
  intro s off size v h
  exact ⟨dmemHostWrite_of_running h off size v, csrWrite_berPos_of_running h v, csrWrite_berEnd_of_running h v,
    busyValue s size, dmemHostRead_of_running h off size⟩

/-! ### The bytes of a little-endian number -/

/-- Byte `k` of le_n(v) holds the bits of `v` from `8 * k` (R7). -/
theorem leBytes_getElem {n k : Nat} (v : Nat) (h : k < (leBytes n v).length) :
    (leBytes n v)[k] = BitVec.ofNat 8 (v >>> (8 * k)) := by
  induction n generalizing v k with
  | zero => simp [leBytes] at h
  | succ n ih =>
    cases k with
    | zero => simp [leBytes]
    | succ k =>
      have hshift : v >>> (8 * (k + 1)) = (v / 256) >>> (8 * k) := by
        rw [Nat.mul_succ, Nat.add_comm, Nat.shiftRight_add, Nat.shiftRight_eq_div_pow v 8]
      simp only [leBytes, List.getElem_cons_succ, ih, hshift]

/-- Byte `k` of a string is the bits of LE(s) from `8 * k` (R7). -/
theorem ofNat_leNat_shiftRight {s : Bytes} {k : Nat} (h : k < s.length) :
    BitVec.ofNat 8 (leNat s >>> (8 * k)) = s[k] := by
  have hk : k < (leBytes s.length (leNat s)).length := by simpa using h
  rw [← leBytes_getElem (leNat s) hk]
  simp only [leBytes_leNat]

/-! ### Idle accesses -/

/-- An idle write stores the bytes of the value, least significant first (R63, R71). -/
theorem dmemHostWrite_readByte {s : State} (h : s.phase = .idle) (off : Nat) {size k : Nat} (v : Word) (hk : k < size) :
    (dmemHostWrite s off size v).readByte (off + k) = v.extractLsb' (8 * k) 8 := by
  have hlen : k < (leBytes size v.toNat).length := by simpa using hk
  rw [dmemHostWrite_of_idle h, State.readByte, Memory.read?_write_inside _ _ _ _ hlen, leBytes_getElem]
  rfl

/-- An idle write changes no byte outside the access (R71). -/
theorem dmemHostWrite_sameDmemOutside {s : State} (h : s.phase = .idle) (off size : Nat) (v : Word) :
    SameDmemOutside s (dmemHostWrite s off size v) off size := by
  intro x hx
  have ht := dmemHostWrite_of_idle h off size v
  exact State.readByte_of_write_outside s _ off (leBytes size v.toNat) (by rw [ht]) (by rw [ht]) x (by simpa using hx)

/-- The word of a read of at most four bytes is the number they write: nothing is cut off. -/
theorem dmemValue_toNat (s : State) (off : Nat) {size : Nat} (h : size ≤ 4) :
    (dmemValue s off size).toNat = leNat (s.memRead off size) := by
  have hlt : leNat (s.memRead off size) < 256 ^ size := by simpa using leNat_lt (s.memRead off size)
  have hle : 256 ^ size ≤ 256 ^ 4 := Nat.pow_le_pow_right (by decide) h
  exact Nat.mod_eq_of_lt (by omega)

theorem dmemValue_lt (s : State) (off : Nat) {size : Nat} (h : size ≤ 4) :
    (dmemValue s off size).toNat < 2 ^ (8 * size) := by
  rw [dmemValue_toNat s off h, pow_mul]
  simpa using leNat_lt (s.memRead off size)

/-- Byte `k` of the word read is the byte at `off + k` (R63). -/
theorem dmemValue_extractLsb' (s : State) (off : Nat) {size k : Nat} (h : size ≤ 4) (hk : k < size) :
    (dmemValue s off size).extractLsb' (8 * k) 8 = s.readByte (off + k) := by
  have hlen : k < (s.memRead off size).length := by simpa using hk
  rw [BitVec.extractLsb', dmemValue_toNat s off h, ofNat_leNat_shiftRight hlen, State.memRead_getElem]

/-- Settles O19: the bytes of le_n(v) are stored, and those of LE(s) returned, by the rules of the two accesses. -/
theorem idleDmemAccessIsLittleEndian : Obligations.IdleDmemAccessIsLittleEndian := by
  unfold Obligations.IdleDmemAccessIsLittleEndian
  intro s off size v hidle hok
  have hsize : size ≤ 4 := by
    obtain ⟨-, -, hwidth⟩ := dmemAccessOk_inside hok
    omega
  constructor
  · have hframe : dmemHostWrite s off size v = { s with dmem := (dmemHostWrite s off size v).dmem } := by
      rw [dmemHostWrite_of_idle hidle]
    exact ⟨_, rfl, hframe, dmemHostWrite_sameDmemOutside hidle off size v,
      fun _ => dmemHostWrite_readByte hidle off v⟩
  · exact ⟨dmemValue s off size, dmemHostRead_of_idle hidle off size,
      fun _ => dmemValue_extractLsb' s off hsize, dmemValue_lt s off hsize⟩

/-! ### The order of the host's inputs -/

theorem windowOf_outside {p : Params} {addr : Nat} (hcsr : addr < p.baseCsr ∨ p.baseCsr + 4096 ≤ addr)
    (hdmem : addr < p.baseDmem ∨ p.baseDmem + p.dmemBytes ≤ addr) : windowOf p addr = .outside := by
  rw [windowOf, if_neg (by omega), if_neg (by omega)]

/-- The first input moves when no command runs or it is early (log entry 6). -/
theorem turn_of_inbox_cons {s : State} {e : HostEvent} {rest : List HostEvent} (hinbox : s.inbox = e :: rest)
    (h : s.phase = .idle ∨ e.early = true) : turn s = .host e.input rest := by
  obtain hidle | hrunning := s.idle_or_running
  · simp only [turn, hidle, hinbox]
  · have hearly : e.early = true := by simpa [hrunning] using h
    simp only [turn, hrunning, hinbox, hearly, if_true]

theorem turn_of_idle_of_inbox_nil {s : State} (hidle : s.phase = .idle) (hinbox : s.inbox = []) : turn s = .idle := by
  simp only [turn, hidle, hinbox]

theorem step_of_turn_host {s : State} {input : HostInput} {rest : List HostEvent} (h : turn s = .host input rest) :
    step s = hostInput { s with inbox := rest } input := by
  simp only [step, stepBody, h]

theorem step_of_turn_idle {s : State} (h : turn s = .idle) : step s = .next s := by
  simp only [step, stepBody, h]

/-- Settles O6: an address outside both windows is refused, and the step is the move `turn` names. -/
theorem hostInputsArePerformedInOrder : Obligations.HostInputsArePerformedInOrder := by
  unfold Obligations.HostInputsArePerformedInOrder
  refine ⟨fun s addr size v hcsr hdmem => ?_, fun s => ⟨fun e rest hinbox h => ?_, fun hidle hinbox => ?_⟩⟩
  · have houtside := windowOf_outside hcsr hdmem
    constructor
    · simp only [hostInput, hostRead, houtside]
    · simp only [hostInput, hostWrite, houtside]
  · exact step_of_turn_host (turn_of_inbox_cons hinbox h)
  · exact step_of_turn_idle (turn_of_idle_of_inbox_nil hidle hinbox)

end Sys2Proof.Machine
end

section
/-! PROOFS. The command words (30_encoding.md R90, R93, R96, R97): a word that selects a row of the opcode table is the
encoding of the command the row gives, so that the decoder and the encoder are inverse and a reserved word encodes no
command. -/

namespace Sys2Proof

open Laws.Encoding in
/-- The fields of a command's word (R90): the family Encoding as one statement over every command. -/
theorem encode_fields : ∀ i, Statement i :=
  @Instr.rec Statement nop zeroize aesKey aesEnc aesDec bfKey bfEnc bfDec ghSetH ghDeriveH ghClear ghLoadX ghUpdate
    ghStoreX gfMul ctCompare ecAdd ecDbl ecCheck x25519 x448 modexp berTag berSeq berInt

end Sys2Proof

namespace Sys2Proof.Machine

/-! ### The decoder and the encoder -/

/-- Every command has a row, and no earlier row is selected by its word. -/
theorem decode_encode (i : Instr) : decode (encode i) = .ok i := by
  cases i with
  | ecAdd v => cases v <;> rfl
  | ecDbl v => cases v <;> rfl
  | _ => rfl

/-- A row fixes every bit of its command's word, or every bit but V, which is then bit 8 (R93, R95). -/
theorem opcodeRows_forms : ∀ r ∈ opcodeRows,
    (r.mask = BitVec.allOnes 32 ∧ ∀ v, encode (r.command v) = r.pattern) ∨
      (r.mask = ~~~BitVec.twoPow 32 8 ∧ ∀ v, encode (r.command v) = r.pattern ||| flagAt v 8) := by
  decide

/-- A word is what remains of it without bit 8, and bit 8. -/
theorem and_not_bit8_or_flagAt (w : Word) : w &&& ~~~BitVec.twoPow 32 8 ||| flagAt (w.getLsbD 8) 8 = w := by
  refine BitVec.eq_of_getLsbD_eq fun k hk => ?_
  rw [BitVec.getLsbD_or, BitVec.getLsbD_and, flagAt_getLsbD _ (by decide)]
  obtain rfl | hne := eq_or_ne k 8
  · simp
  · simp [hne, hk]

/-- A word that selects a row is the word of the command the row gives: the row drops no bit. -/
theorem encode_of_selects {r : OpcodeRow} (hr : r ∈ opcodeRows) {w : Word} (h : w &&& r.mask = r.pattern) :
    encode (r.command (w.getLsbD 8)) = w := by
  obtain ⟨hmask, hword⟩ | ⟨hmask, hword⟩ := opcodeRows_forms r hr
  · rw [hword, ← h, hmask, BitVec.and_allOnes]
  · rw [hword, ← h, hmask, and_not_bit8_or_flagAt]

theorem decode_of_selects {r : OpcodeRow} (hr : r ∈ opcodeRows) {w : Word} (h : w &&& r.mask = r.pattern) :
    decode w = .ok (r.command (w.getLsbD 8)) := by
  have hdec := decode_encode (r.command (w.getLsbD 8))
  rwa [encode_of_selects hr h] at hdec

/-- A word decodes only by a row it selects (R96). -/
theorem selects_of_decode {w : Word} {i : Instr} (h : decode w = .ok i) :
    ∃ r ∈ opcodeRows, w &&& r.mask = r.pattern ∧ r.command (w.getLsbD 8) = i := by
  unfold decode at h
  split at h
  · next r hfind =>
    exact ⟨r, List.mem_of_find?_eq_some hfind, by simpa [OpcodeRow.selects] using List.find?_some hfind,
      by simpa using h⟩
  · cases h

theorem encode_of_decode {w : Word} {i : Instr} (h : decode w = .ok i) : encode i = w := by
  obtain ⟨r, hr, hsel, rfl⟩ := selects_of_decode h
  exact encode_of_selects hr hsel

/-- Settles O1: a decoded word selects a row, whose command it encodes. -/
theorem decodeInvertsEncode : Obligations.DecodeInvertsEncode := by
  unfold Obligations.DecodeInvertsEncode
  exact ⟨decode_encode, fun _ _ => encode_of_decode⟩

/-- Settles O4: each word is the encoding of its command. -/
theorem specWordsDecode : Obligations.SpecWordsDecode := by
  unfold Obligations.SpecWordsDecode
  exact ⟨⟨decode_encode .nop, decode_encode .zeroize⟩,
    ⟨decode_encode .aesKey, decode_encode .aesEnc, decode_encode .aesDec⟩,
    ⟨decode_encode .bfKey, decode_encode .bfEnc, decode_encode .bfDec⟩,
    ⟨decode_encode .ghSetH, decode_encode .ghDeriveH, decode_encode .ghClear, decode_encode .ghLoadX,
      decode_encode .ghUpdate, decode_encode .ghStoreX, decode_encode .gfMul, decode_encode .ctCompare⟩,
    ⟨decode_encode (.ecAdd false), decode_encode (.ecAdd true), decode_encode (.ecDbl false),
      decode_encode (.ecDbl true), decode_encode .ecCheck⟩,
    ⟨decode_encode .x25519, decode_encode .x448, decode_encode .modexp⟩,
    ⟨decode_encode .berTag, decode_encode .berSeq, decode_encode .berInt⟩, by decide⟩

/-! ### One row per word -/

/-- No two rows give the same command. -/
theorem opcodeRows_commands_ne : opcodeRows.Pairwise (fun r r' => ∀ v, r.command v ≠ r'.command v) := by decide

/-- Two rows a word selects give the same command, the one it decodes to. -/
theorem selected_rows_length_le_one (w : Word) : (opcodeRows.filter (·.selects w)).length ≤ 1 := by
  have hsel : ∀ r ∈ opcodeRows.filter (·.selects w), decode w = .ok (r.command (w.getLsbD 8)) := by
    intro r hr
    obtain ⟨hmem, hpat⟩ := List.mem_filter.mp hr
    exact decode_of_selects hmem (by simpa [OpcodeRow.selects] using hpat)
  have hne := opcodeRows_commands_ne.filter (·.selects w)
  generalize opcodeRows.filter (·.selects w) = rows at hsel hne ⊢
  match rows, hsel, hne with
  | [], _, _ => simp
  | [_], _, _ => simp
  | r :: r' :: rest, hsel, hne =>
    have hcmd := (hsel r (by simp)).symm.trans (hsel r' (by simp))
    exact absurd (Except.ok.inj hcmd) (List.rel_of_pairwise_cons hne (by simp) _)

/-- A word that selects no row is reserved (R97). -/
theorem decode_of_no_row {w : Word} (h : ∀ r ∈ opcodeRows, w &&& r.mask ≠ r.pattern) : ∃ e, decode w = .error e := by
  cases hdec : decode w with
  | error e => exact ⟨e, rfl⟩
  | ok i =>
    obtain ⟨r, hr, hsel, -⟩ := selects_of_decode hdec
    exact absurd hsel (h r hr)

/-- Settles O2: the row a word selects gives the command it encodes, so two rows would give one command. -/
theorem decodingIsTheOpcodeTable : Obligations.DecodingIsTheOpcodeTable := by
  unfold Obligations.DecodingIsTheOpcodeTable
  exact fun w => ⟨fun _ hr => decode_of_selects hr, selected_rows_length_le_one w, decode_of_no_row⟩

/-! ### Reserved words -/

theorem opcode_mem_mapOpcodes (i : Instr) : i.opcode.toNat ∈ mapOpcodes := by
  cases i <;> simp [Instr.opcode, mapOpcodes]

/-- V stands only in EC_ADD and EC_DBL (R95). -/
theorem opcode_of_vBit {i : Instr} (h : i.vBit = true) : i.opcode.toNat = 0x30 ∨ i.opcode.toNat = 0x31 := by
  cases i with
  | ecAdd v => exact .inl rfl
  | ecDbl v => exact .inr rfl
  | _ => cases h

/-- The word of a command is none of the reserved ones (R97). -/
theorem encode_not_reserved (i : Instr) :
    encode i >>> 9 = 0 ∧ (encode i).toNat % 256 ∈ mapOpcodes ∧
      ((encode i).getLsbD 8 = true → (encode i).toNat % 256 = 0x30 ∨ (encode i).toNat % 256 = 0x31) := by
  obtain ⟨-, hop, hv, hhigh⟩ := encode_fields i
  have hop' : (encode i).toNat % 256 = i.opcode.toNat := by simp [← hop]
  rw [hop', hv]
  exact ⟨hhigh, opcode_mem_mapOpcodes i, opcode_of_vBit⟩

/-- A word of one of the three reserved kinds decodes to no command (R97). -/
theorem decode_of_reserved {w : Word} (h : w >>> 9 ≠ 0 ∨ w.toNat % 256 ∉ mapOpcodes ∨
    (w.getLsbD 8 = true ∧ w.toNat % 256 ≠ 0x30 ∧ w.toNat % 256 ≠ 0x31)) : ∃ e, decode w = .error e := by
  cases hdec : decode w with
  | error e => exact ⟨e, rfl⟩
  | ok i =>
    obtain ⟨hhigh, hop, hv⟩ := encode_not_reserved i
    rw [encode_of_decode hdec] at hhigh hop hv
    obtain hbits | hout | ⟨hbit8, hadd, hdbl⟩ := h
    · exact absurd hhigh hbits
    · exact absurd hop hout
    · exact ((hv hbit8).elim hadd hdbl).elim

theorem step_of_turn_engine {s : State} (h : turn s = .engine) : step s = engineStep s := by
  simp only [step, stepBody, h]

/-- The engine completes a reserved word with Error(BADCMD) (R97). -/
theorem engineStep_of_decode_error {s : State} {e : DecodeError} (h : decode s.cmdl = .error e) :
    engineStep s = .next (s.failed .badCmd) := by
  simp only [engineStep, h]
  rfl

/-- Settles O3: an idle write of CMD is the issue, and a reserved word, decoding to no command, fails. -/
theorem reservedWordsFailWithBadcmd : Obligations.ReservedWordsFailWithBadcmd := by
  unfold Obligations.ReservedWordsFailWithBadcmd
  refine fun s => ⟨csrWrite_cmd_of_idle, fun hturn hres => ⟨?_, rfl⟩⟩
  obtain ⟨e, hdec⟩ := decode_of_reserved hres
  rw [step_of_turn_engine hturn, engineStep_of_decode_error hdec]

end Sys2Proof.Machine
end

section
/-! PROOFS. The control commands NOP and ZEROIZE (40_control.md): the state each of them ends in, and the bytes ZEROIZE
leaves in DMEM (R110, R111). -/

namespace Sys2Proof.Machine

/-- The k-th byte a MemWrite has just written (R71). -/
theorem State.readByte_of_write_inside (s t : State) (a : Nat) (bs : Bytes) (h : t.dmem = s.dmem.write a bs) {k : Nat}
    (hk : k < bs.length) : t.readByte (a + k) = bs[k] := by
  rw [State.readByte, h, Memory.read?_write_inside s.dmem a bs k hk, Option.getD_some]

@[simp] theorem zeroBytes_getElem {n k : Nat} (h : k < (zeroBytes n).length) : (zeroBytes n)[k] = 0 :=
  List.getElem_replicate h

/-- Every byte below n is 0 once a MemWrite has stored n zero bytes at 0. -/
theorem State.readByte_of_write_zeroBytes {s t : State} {n : Nat} (h : t.dmem = s.dmem.write 0 (zeroBytes n)) (x : Nat)
    (hx : x < n) : t.readByte x = 0 := by
  have hlen : x < (zeroBytes n).length := by rwa [zeroBytes_length]
  have hbyte := State.readByte_of_write_inside s t 0 (zeroBytes n) h hlen
  rwa [Nat.zero_add, zeroBytes_getElem] at hbyte

/-- A MemWrite changes no byte outside the n addresses it stores to (R71). -/
theorem sameDmemOutside_of_write {s t : State} {a n : Nat} {bs : Bytes} (h : t.dmem = s.dmem.write a bs)
    (he : t.epoch = s.epoch) (hn : bs.length = n) : SameDmemOutside s t a n := by
  subst hn
  exact State.readByte_of_write_outside s t a bs h he

/-- NOP writes only the outcome of an ordinary success (R110). -/
theorem exec_nop (s : State) : exec .nop s = .next (s.ended true) :=
  exec_eq .nop s

/-- ZEROIZE writes zeros over all of DMEM and empties the units and RES (R111). -/
theorem exec_zeroize (s : State) :
    exec .zeroize s = .next { s.ended true with
      dmem := s.dmem.write 0 (zeroBytes s.params.dmemBytes)
      aes := AesUnit.zero
      bf := BfUnit.zero
      gh := GhUnit.zero
      res := ResRegs.zero } :=
  exec_eq .zeroize s

/-- Settles O27: NOP's rule has no writes, so its end is that of an ordinary success. -/
theorem nopOnlyCompletes : Obligations.NopOnlyCompletes := by
  unfold Obligations.NopOnlyCompletes
  exact exec_nop

/-- Settles O28: the one MemWrite of ZEROIZE covers exactly the addresses of DMEM, each with a zero byte. -/
theorem zeroizeClearsEveryStore : Obligations.ZeroizeClearsEveryStore := by
  unfold Obligations.ZeroizeClearsEveryStore
  intro s
  refine ⟨_, exec_zeroize s, rfl, ?cleared, ?outside⟩
  case cleared => exact State.readByte_of_write_zeroBytes rfl
  case outside => exact sameDmemOutside_of_write rfl rfl (zeroBytes_length s.params.dmemBytes)

end Sys2Proof.Machine
end

section
/-! PROOFS. The AES byte arithmetic (41_aes.md R121, R122): the byte product is linear and commutes with multiplication
by x, hence commutative and associative, and the S-box is the affine image of its inverses. -/

namespace Sys2Proof.Machine

/-! ### The byte product -/

/-- Multiplication by x is linear: the reduction by 0x1B depends on one bit only. -/
theorem xtime_xor (a b : Byte) : xtime (a ^^^ b) = xtime a ^^^ xtime b := by
  have hmsb : (if a.msb ^^ b.msb then (0x1B : Byte) else 0) =
      (if a.msb then 0x1B else 0) ^^^ (if b.msb then 0x1B else 0) := by
    cases a.msb <;> cases b.msb <;> rfl
  simp only [xtime, BitVec.shiftLeft_xor_distrib, BitVec.msb_xor, hmsb]
  ac_rfl

/-- A map that is linear and commutes with multiplication by x commutes with multiplication by every byte. -/
theorem map_gfMulBits {f : Byte → Byte} (hxor : ∀ a b, f (a ^^^ b) = f a ^^^ f b)
    (hxtime : ∀ a, f (xtime a) = xtime (f a)) (n : Nat) (a b : Byte) :
    f (gfMulBits n a b) = gfMulBits n a (f b) := by
  have hzero : f 0 = 0 := by simpa using hxor 0 0
  induction n generalizing a b with
  | zero => exact hzero
  | succ n ih => rw [gfMulBits, hxor, ih, hxtime, apply_ite f, hzero, gfMulBits]

theorem gfMulBits_xor (n : Nat) (a b c : Byte) :
    gfMulBits n a (b ^^^ c) = gfMulBits n a b ^^^ gfMulBits n a c := by
  induction n generalizing a b c with
  | zero => simp [gfMulBits]
  | succ n ih =>
    simp only [gfMulBits, xtime_xor, ih]
    split
    · ac_rfl
    · simp

theorem gfMul8_xor (a b c : Byte) : gfMul8 a (b ^^^ c) = gfMul8 a b ^^^ gfMul8 a c := gfMulBits_xor 8 a b c

theorem gfMul8_xtime (a b : Byte) : gfMul8 a (xtime b) = xtime (gfMul8 a b) :=
  (map_gfMulBits xtime_xor (fun _ => rfl) 8 a b).symm

theorem gfMul8_one : ∀ a : Byte, gfMul8 a 1 = a := by decide

theorem gfMul8_left_comm (a b c : Byte) : gfMul8 a (gfMul8 b c) = gfMul8 b (gfMul8 a c) :=
  map_gfMulBits (gfMul8_xor a) (gfMul8_xtime a) 8 b c

theorem gfMul8_comm (a b : Byte) : gfMul8 a b = gfMul8 b a := by
  simpa only [gfMul8_one] using gfMul8_left_comm a b 1

theorem gfMul8_assoc (a b c : Byte) : gfMul8 (gfMul8 a b) c = gfMul8 a (gfMul8 b c) := by
  rw [gfMul8_comm _ c, gfMul8_left_comm, gfMul8_comm c b]

theorem xor_gfMul8 (a b c : Byte) : gfMul8 (a ^^^ b) c = gfMul8 a c ^^^ gfMul8 b c := by
  rw [gfMul8_comm, gfMul8_xor, gfMul8_comm c a, gfMul8_comm c b]

theorem one_gfMul8 (a : Byte) : gfMul8 1 a = a := by rw [gfMul8_comm, gfMul8_one]

theorem zero_gfMul8 (a : Byte) : gfMul8 0 a = 0 := by simpa using xor_gfMul8 0 0 a

/-- An inverse in GF(2^8) is the only one. -/
theorem gfMul8_inverse_unique {a b c : Byte} (hb : gfMul8 a b = 1) (hc : gfMul8 a c = 1) : b = c := by
  calc b = gfMul8 b (gfMul8 a c) := by rw [hc, gfMul8_one]
    _ = gfMul8 c (gfMul8 a b) := by rw [← gfMul8_assoc, gfMul8_comm b a, gfMul8_comm]
    _ = c := by rw [hb, gfMul8_one]

/-! ### The S-box -/

/-- The affine map of the S-box (R122). -/
def sboxAffine (b : Byte) : Byte :=
  b ^^^ b.rotateLeft 1 ^^^ b.rotateLeft 2 ^^^ b.rotateLeft 3 ^^^ b.rotateLeft 4 ^^^ 0x63

/-- The inverse of the affine map of the S-box. -/
def sboxUnaffine (b : Byte) : Byte := b.rotateLeft 1 ^^^ b.rotateLeft 3 ^^^ b.rotateLeft 6 ^^^ 0x05

theorem sboxAffine_sboxUnaffine : ∀ b : Byte, sboxAffine (sboxUnaffine b) = b := by decide

/-- The table holds affine images of inverses. -/
theorem gfMul8_sboxUnaffine_sbox : ∀ a : Byte, a ≠ 0 → gfMul8 a (sboxUnaffine (sbox a)) = 1 := by decide

theorem invSbox_sbox : ∀ a : Byte, invSbox (sbox a) = a := by decide

/-- Settles O31: the inverse the table shows is the only one, and the table's affine part is undone by its own. -/
theorem sboxFollowsItsDefinition : Obligations.SboxFollowsItsDefinition := by
  unfold Obligations.SboxFollowsItsDefinition
  refine ⟨gfMul8_one, gfMul8_xtime, gfMul8_xor, fun a ha => ⟨_, gfMul8_sboxUnaffine_sbox a ha⟩, rfl, ?image,
    invSbox_sbox⟩
  case image =>
    intro a b hab
    have ha : a ≠ 0 := by
      rintro rfl
      rw [zero_gfMul8] at hab
      cases hab
    have hb : b = sboxUnaffine (sbox a) := gfMul8_inverse_unique hab (gfMul8_sboxUnaffine_sbox a ha)
    rw [hb]
    exact (sboxAffine_sboxUnaffine (sbox a)).symm

end Sys2Proof.Machine
end

section
/-! PROOFS. The AES commands and the key expansion (41_aes.md R124, R126 to R128): a command ends as its rule does, and
each step of the expansion appends one word to those before, which later steps keep. -/

namespace Sys2Proof.Machine

/-! ### How a command ends -/

/-- A command whose rule raises Error(c) ends with it and changes nothing else (R253, R254). -/
theorem fails_of_ruleOf {i : Instr} {s : State} {c : ErrCode} (h : ruleOf i s = .error c) : Fails i s c := by
  rw [Fails, exec_eq, h]
  rfl

theorem exec_of_ruleOf {i : Instr} {s : State} {e : Effect} (h : ruleOf i s = .ok e) :
    exec i s = .next (s.completeOk e) := by
  rw [exec_eq, h]
  rfl

/-- A command whose rule is one MemWrite stores its bytes and changes nothing else (R71, R253). -/
theorem stores_of_ruleOf {i : Instr} {s : State} {a : Nat} {bs : Bytes}
    (h : ruleOf i s = .ok { result := true, dmem := some (a, bs) }) : Stores i s a bs :=
  ⟨_, exec_of_ruleOf h, rfl, State.memRead_of_write s _ a bs rfl, sameDmemOutside_of_write rfl rfl rfl⟩

/-! ### AES_KEY -/

theorem aesKeyLenOk_iff {s : State} {n : Nat} :
    aesKeyLenOk s n = true ↔ n = 16 ∨ n = 32 ∨ (n = 24 ∧ s.params.aes192 = true) := by
  simp [aesKeyLenOk, or_assoc]

theorem ruleAesKey_of_len_not_ok {s : State} (h : aesKeyLenOk s (s.argN 1) = false) :
    ruleAesKey s = .error .keyLen :=
  bind_eq_error.2 (.inl (require_eq_error.2 ⟨h, rfl⟩))

theorem ruleAesKey_of_not_inRange {s : State} (hlen : aesKeyLenOk s (s.argN 1) = true)
    (h : ¬ s.inRange (s.argN 0) (s.argN 1)) : ruleAesKey s = .error .addr :=
  bind_eq_error.2 (.inr ⟨(), require_eq_ok.2 hlen, bind_eq_error.2 (.inl (checkRange_of_not_le h))⟩)

theorem ruleAesKey_of_inRange {s : State} (hlen : aesKeyLenOk s (s.argN 1) = true)
    (h : s.inRange (s.argN 0) (s.argN 1)) : ruleAesKey s =
      .ok { result := true, aes := some (aesLoad (s.memRead (s.argN 0) (s.argN 1)) (s.argN 1 / 4)) } :=
  bind_eq_ok.2 ⟨(), require_eq_ok.2 hlen, bind_eq_ok.2 ⟨(), checkRange_of_le h, rfl⟩⟩

theorem aesLoad_rk (key : Bytes) (nk : Nat) (i : Fin 60) :
    (aesLoad key nk).rk[i] = (keyExpansion key nk).getD i.val 0 := by
  simp [aesLoad]

/-! ### The key expansion -/

/-- The schedule after `m` steps of the key expansion, in the order of the words. -/
def expandedWords (key : Bytes) (nk m : Nat) : List Word :=
  ((List.range' nk m).foldl (expandStep nk) (keyWords key nk).reverse).reverse

theorem keyExpansion_eq (key : Bytes) (nk : Nat) : keyExpansion key nk = expandedWords key nk (4 * (nk + 7) - nk) := rfl

theorem expandedWords_zero (key : Bytes) (nk : Nat) : expandedWords key nk 0 = keyWords key nk :=
  List.reverse_reverse _

@[simp] theorem keyWords_length (key : Bytes) (nk : Nat) : (keyWords key nk).length = nk := by simp [keyWords]

/-- One step on the words in order: the word `nk` before the new one, XOR the temporary made of the last one. -/
theorem expandStep_reverse {nk : Nat} (hnk : 0 < nk) {w : List Word} (hlen : nk ≤ w.length) (i : Nat) :
    (expandStep nk w.reverse i).reverse =
      w ++ [w.getD (w.length - nk) 0 ^^^ expandTemp nk i (w.getD (w.length - 1) 0)] := by
  have hback : w.reverse.getD (nk - 1) 0 = w.getD (w.length - nk) 0 := by
    rw [List.getD_eq_getElem?_getD, List.getElem?_reverse (by omega), List.getD_eq_getElem?_getD,
      show w.length - 1 - (nk - 1) = w.length - nk by omega]
  have hlast : w.reverse.headD 0 = w.getD (w.length - 1) 0 := by
    rw [List.headD_eq_head?_getD, List.head?_reverse, List.getLast?_eq_getElem?, List.getD_eq_getElem?_getD]
  rw [expandStep, List.reverse_cons, List.reverse_reverse, hback, hlast]

theorem expandedWords_length (key : Bytes) (nk m : Nat) : (expandedWords key nk m).length = nk + m := by
  induction m with
  | zero => simp [expandedWords_zero]
  | succ m ih =>
    simp only [expandedWords, List.length_reverse, List.range'_1_concat, List.foldl_append, List.foldl_cons,
      List.foldl_nil, expandStep, List.length_cons] at ih ⊢
    omega

theorem expandedWords_succ (key : Bytes) {nk : Nat} (hnk : 0 < nk) (m : Nat) :
    expandedWords key nk (m + 1) = expandedWords key nk m ++ [(expandedWords key nk m).getD m 0 ^^^
      expandTemp nk (nk + m) ((expandedWords key nk m).getD (nk + m - 1) 0)] := by
  have hlen := expandedWords_length key nk m
  have hstep : expandedWords key nk (m + 1) =
      (expandStep nk (expandedWords key nk m).reverse (nk + m)).reverse := by
    simp only [expandedWords, List.range'_1_concat, List.foldl_append, List.foldl_cons, List.foldl_nil,
      List.reverse_reverse]
  rw [hstep, expandStep_reverse hnk (by omega), hlen, Nat.add_sub_cancel_left]

/-- Later steps keep the words made so far. -/
theorem expandedWords_getD_of_le (key : Bytes) {nk : Nat} (hnk : 0 < nk) {m n i : Nat} (hmn : m ≤ n)
    (hi : i < nk + m) : (expandedWords key nk n).getD i 0 = (expandedWords key nk m).getD i 0 := by
  induction n, hmn using Nat.le_induction with
  | base => rfl
  | succ n hmn ih =>
    have hlen := expandedWords_length key nk n
    rw [expandedWords_succ key hnk, List.getD_append _ _ _ _ (by omega), ih]

/-- The recurrence of R124. -/
theorem expandedWords_getD (key : Bytes) {nk : Nat} (hnk : 0 < nk) {m i : Nat} (hi : nk ≤ i) (him : i < nk + m) :
    (expandedWords key nk m).getD i 0 = (expandedWords key nk m).getD (i - nk) 0 ^^^
      expandTemp nk i ((expandedWords key nk m).getD (i - 1) 0) := by
  obtain ⟨k, rfl⟩ := Nat.exists_eq_add_of_le hi
  have hlen := expandedWords_length key nk k
  rw [expandedWords_getD_of_le key hnk (m := k + 1) (by omega) (by omega), expandedWords_succ key hnk,
    List.getD_append_right _ _ _ _ (by omega), Nat.add_sub_cancel_left,
    ← expandedWords_getD_of_le key hnk (m := k) (n := m) (by omega) (i := k) (by omega),
    ← expandedWords_getD_of_le key hnk (m := k) (n := m) (by omega) (i := nk + k - 1) (by omega), hlen]
  simp

theorem keyWords_getD_toNat (key : Bytes) {nk i : Nat} (hi : i < nk) :
    ((keyWords key nk).getD i 0).toNat = beNat ((key.drop (4 * i)).take 4) := by
  have hlt := beNat_lt ((key.drop (4 * i)).take 4)
  have hle : 256 ^ ((key.drop (4 * i)).take 4).length ≤ 256 ^ 4 :=
    Nat.pow_le_pow_right (by decide) (List.length_take_le _ _)
  simp only [keyWords, List.getD_eq_getElem?_getD, List.getElem?_map, List.getElem?_range hi, Option.map_some,
    Option.getD_some, wordOf, BitVec.toNat_ofNat]
  exact Nat.mod_eq_of_lt (by omega)

/-- SubWord with its four bytes joined in pairs. -/
theorem subWord_eq (t : Word) : subWord t = (sbox (t.extractLsb' 24 8) ++ sbox (t.extractLsb' 16 8)) ++
    (sbox (t.extractLsb' 8 8) ++ sbox (t.extractLsb' 0 8)) :=
  BitVec.append_assoc

theorem rcon_word (j : Nat) : (rcon j).zeroExtend 32 <<< 24 = BitVec.ofNat 32
    ([0x01, 0x02, 0x04, 0x08, 0x10, 0x20, 0x40, 0x80, 0x1b, 0x36].getD (j - 1) 0 * 2 ^ 24) := by
  unfold rcon
  generalize j - 1 = k
  obtain hk | hk := Nat.lt_or_ge k 10
  · interval_cases k <;> rfl
  · rw [List.getD_eq_default _ _ hk, List.getD_eq_default _ _ hk]
    rfl

theorem keyExpansion_length (key : Bytes) (nk : Nat) : (keyExpansion key nk).length = 4 * (nk + 7) := by
  rw [keyExpansion_eq, expandedWords_length]
  omega

/-- Settles O30: the words are those after the last step of the expansion, which keeps the words of the steps before. -/
theorem keyExpansionFollowsItsRecurrence : Obligations.KeyExpansionFollowsItsRecurrence := by
  unfold Obligations.KeyExpansionFollowsItsRecurrence
  intro key nk hnk _
  have hpos : 0 < nk := by omega
  refine ⟨keyExpansion_length key nk, fun i hi => ?keyWord, fun i hi hlt => ?laterWord⟩
  case keyWord =>
    show ((keyExpansion key nk).getD i 0).toNat = _
    rw [keyExpansion_eq, expandedWords_getD_of_le key hpos (Nat.zero_le _) hi, expandedWords_zero,
      keyWords_getD_toNat key hi]
  case laterWord =>
    have hword := expandedWords_getD key (m := 4 * (nk + 7) - nk) hpos hi (by omega)
    rw [expandTemp, rcon_word, subWord_eq, subWord_eq, ← keyExpansion_eq] at hword
    exact hword

/-- Settles O29: the rule's checks fail in their order, and the expansion gives no word above the schedule. -/
theorem aesKeyLoadsTheSchedule : Obligations.AesKeyLoadsTheSchedule := by
  unfold Obligations.AesKeyLoadsTheSchedule
  intro s
  simp only [← aesKeyLenOk_iff, Bool.not_eq_true]
  refine ⟨fun hlen => fails_of_ruleOf (ruleAesKey_of_len_not_ok hlen),
    fun hlen hout => fails_of_ruleOf (ruleAesKey_of_not_inRange hlen hout),
    fun hlen hin => ⟨_, exec_of_ruleOf (ruleAesKey_of_inRange hlen hin), rfl, rfl, rfl, rfl, fun i => ?word⟩⟩
  case word =>
    refine (aesLoad_rk _ _ i).trans ?_
    split
    · rfl
    · exact List.getD_eq_default _ _ (by rw [keyExpansion_length]; omega)

/-! ### AES_ENC and AES_DEC -/

/-- A range of AES_ENC or AES_DEC outside DMEM (R127, R128). -/
theorem ruleAesBlock_of_not_inRange {f : AesUnit → Bytes → Bytes} {s : State}
    (h : ¬ (s.inRange (s.argN 0) 16 ∧ s.inRange (s.argN 1) 16)) : ruleAesBlock f s = .error .addr := by
  by_cases hin : s.inRange (s.argN 0) 16
  · exact bind_eq_error.2 (.inr ⟨(), checkRange_of_le hin,
      bind_eq_error.2 (.inl (checkRange_of_not_le fun hout => h ⟨hin, hout⟩))⟩)
  · exact bind_eq_error.2 (.inl (checkRange_of_not_le hin))

theorem ruleAesBlock_of_no_key {f : AesUnit → Bytes → Bytes} {s : State} (hin : s.inRange (s.argN 0) 16)
    (hout : s.inRange (s.argN 1) 16) (hkv : s.aes.kv = false) : ruleAesBlock f s = .error .noKey :=
  bind_eq_error.2 (.inr ⟨(), checkRange_of_le hin, bind_eq_error.2 (.inr ⟨(), checkRange_of_le hout,
    bind_eq_error.2 (.inl (require_eq_error.2 ⟨hkv, rfl⟩))⟩)⟩)

/-- R127, R128 for a command whose rule is the common form with a function that gives 16 bytes. -/
theorem aesBlockCommand {i : Instr} {f : AesUnit → Bytes → Bytes} (hrule : ruleOf i = ruleAesBlock f)
    (hlength : ∀ u b, (f u b).length = 16) (s : State) :
    (¬ (s.inRange (s.argN 0) 16 ∧ s.inRange (s.argN 1) 16) → Fails i s .addr) ∧
    (s.inRange (s.argN 0) 16 → s.inRange (s.argN 1) 16 → s.aes.kv = false → Fails i s .noKey) ∧
    (s.inRange (s.argN 0) 16 → s.inRange (s.argN 1) 16 → s.aes.kv = true →
      Stores i s (s.argN 1) (f s.aes (s.memRead (s.argN 0) 16)) ∧
      (f s.aes (s.memRead (s.argN 0) 16)).length = 16) := by
  have hrule' := congrFun hrule s
  exact ⟨fun h => fails_of_ruleOf (hrule'.trans (ruleAesBlock_of_not_inRange h)),
    fun hin hout hkv => fails_of_ruleOf (hrule'.trans (ruleAesBlock_of_no_key hin hout hkv)),
    fun hin hout hkv => ⟨stores_of_ruleOf (hrule'.trans (ruleAesBlock_eq_ok.2 ⟨hin, hout, hkv, rfl⟩)), hlength _ _⟩⟩

/-- Settles O32: both rules are ruleAesBlock, each with a cipher that gives 16 bytes. -/
theorem aesBlockCommands : Obligations.AesBlockCommands := by
  unfold Obligations.AesBlockCommands
  rintro s i f (⟨rfl, rfl⟩ | ⟨rfl, rfl⟩)
  · exact aesBlockCommand rfl aesEncrypt_length s
  · exact aesBlockCommand rfl aesDecrypt_length s

end Sys2Proof.Machine
end

section
/-! PROOFS. The AES cipher and its inverse (41_aes.md R120, R123, R125): each transformation of the state byte by byte,
its inverse, and the rounds composed of them. -/

namespace Sys2Proof.Machine

/-! ### The bytes of the state -/

/-- Row `r` of a column (R120). -/
def AesColumn.row (k : AesColumn) : Fin 4 → Byte := ![k.r0, k.r1, k.r2, k.r3]

/-- Column `c` of the state (R120). -/
def AesState.col (s : AesState) : Fin 4 → AesColumn := ![s.c0, s.c1, s.c2, s.c3]

/-- s[r][c] (R120). -/
def AesState.byte (s : AesState) (r c : Fin 4) : Byte := (s.col c).row r

@[simp] theorem aesMapColumn_row (f : Byte → Byte) (k : AesColumn) (r : Fin 4) :
    (aesMapColumn f k).row r = f (k.row r) := by
  fin_cases r <;> rfl

@[simp] theorem aesMapColumns_col (f : AesColumn → AesColumn) (s : AesState) (c : Fin 4) :
    (aesMapColumns f s).col c = f (s.col c) := by
  fin_cases c <;> rfl

theorem aesColumnOf_row (b : Bytes) (c : Nat) (r : Fin 4) : (aesColumnOf b c).row r = b.getD (r.val + 4 * c) 0 := by
  rw [Nat.add_comm]
  fin_cases r <;> rfl

theorem aesStateOf_byte (b : Bytes) (r c : Fin 4) : (aesStateOf b).byte r c = b.getD (r.val + 4 * c.val) 0 := by
  rw [← aesColumnOf_row, AesState.byte]
  fin_cases c <;> rfl

theorem aesStateBytes_getD (s : AesState) (r c : Fin 4) :
    (aesStateBytes s).getD (r.val + 4 * c.val) 0 = s.byte r c := by
  fin_cases c <;> fin_cases r <;> rfl

theorem subBytes_byte (s : AesState) (r c : Fin 4) : (subBytes s).byte r c = sbox (s.byte r c) := by
  simp [subBytes, AesState.byte]

theorem shiftRows_byte (s : AesState) (r c : Fin 4) : (shiftRows s).byte r c = s.byte r (c + r) := by
  fin_cases c <;> fin_cases r <;> rfl

theorem addKeyColumn_row (k : AesColumn) (w : Word) (r : Fin 4) :
    (addKeyColumn k w).row r = k.row r ^^^ w.extractLsb' (24 - 8 * r.val) 8 := by
  fin_cases r <;> rfl

theorem addRoundKey_byte (u : AesUnit) (n : Nat) (s : AesState) (r c : Fin 4) : (addRoundKey u n s).byte r c =
    s.byte r c ^^^ (aesRoundKey u (4 * n + c.val)).extractLsb' (24 - 8 * r.val) 8 := by
  rw [AesState.byte, AesState.byte, ← addKeyColumn_row]
  fin_cases c <;> rfl

/-! ### MixColumns and its inverse -/

theorem two_gfMul8 (a : Byte) : gfMul8 0x02 a = xtime a := by
  calc gfMul8 0x02 a = gfMul8 a (xtime 1) := gfMul8_comm _ _
    _ = xtime a := by rw [gfMul8_xtime, gfMul8_one]

theorem three_gfMul8 (a : Byte) : gfMul8 0x03 a = xtime a ^^^ a := by
  calc gfMul8 0x03 a = gfMul8 (0x02 ^^^ 0x01) a := rfl
    _ = xtime a ^^^ a := by rw [xor_gfMul8, two_gfMul8, one_gfMul8]

/-- A byte of MixColumns: the row (02 03 01 01), beginning at the byte's own row (R123). -/
theorem mixColumn_row (k : AesColumn) (r : Fin 4) : (mixColumn k).row r =
    xtime (k.row r) ^^^ (xtime (k.row (r + 1)) ^^^ k.row (r + 1)) ^^^ k.row (r + 2) ^^^ k.row (r + 3) := by
  have hrow : (mixColumn k).row r =
      gfMul8 0x02 (k.row r) ^^^ gfMul8 0x03 (k.row (r + 1)) ^^^ gfMul8 0x01 (k.row (r + 2)) ^^^
        gfMul8 0x01 (k.row (r + 3)) := by
    fin_cases r <;> simp [AesColumn.row, mixColumn, mixRow] <;> ac_rfl
  rw [hrow, two_gfMul8, three_gfMul8, one_gfMul8, one_gfMul8]

theorem mixColumns_byte (s : AesState) (r c : Fin 4) : (mixColumns s).byte r c =
    xtime (s.byte r c) ^^^ (xtime (s.byte (r + 1) c) ^^^ s.byte (r + 1) c) ^^^ s.byte (r + 2) c ^^^
      s.byte (r + 3) c := by
  simp only [mixColumns, AesState.byte, aesMapColumns_col, mixColumn_row]

/-- A row of a matrix times MixColumns is the row of the product of the two matrices. -/
theorem mixRow_mixColumn (k0 k1 k2 k3 : Byte) (a : AesColumn) : mixRow k0 k1 k2 k3 (mixColumn a) =
    mixRow (gfMul8 k0 2 ^^^ k1 ^^^ k2 ^^^ gfMul8 k3 3) (gfMul8 k0 3 ^^^ gfMul8 k1 2 ^^^ k2 ^^^ k3)
      (k0 ^^^ gfMul8 k1 3 ^^^ gfMul8 k2 2 ^^^ k3) (k0 ^^^ k1 ^^^ gfMul8 k2 3 ^^^ gfMul8 k3 2) a := by
  simp only [mixRow, mixColumn, gfMul8_xor, xor_gfMul8, gfMul8_assoc, one_gfMul8]
  ac_rfl

theorem mixRow_unit (a : AesColumn) :
    mixRow 1 0 0 0 a = a.r0 ∧ mixRow 0 1 0 0 a = a.r1 ∧ mixRow 0 0 1 0 a = a.r2 ∧ mixRow 0 0 0 1 a = a.r3 := by
  simp only [mixRow, one_gfMul8, zero_gfMul8]
  simp

/-- The matrix of InvMixColumns times the matrix of MixColumns is the unit matrix. -/
theorem invMixColumn_mixColumn (a : AesColumn) : invMixColumn (mixColumn a) = a := by
  obtain ⟨hr0, hr1, hr2, hr3⟩ := mixRow_unit a
  calc invMixColumn (mixColumn a) = ⟨mixRow 1 0 0 0 a, mixRow 0 1 0 0 a, mixRow 0 0 1 0 a, mixRow 0 0 0 1 a⟩ := by
        simp only [invMixColumn, mixRow_mixColumn]
        rfl
    _ = a := by rw [hr0, hr1, hr2, hr3]

theorem invMixColumns_mixColumns (s : AesState) : invMixColumns (mixColumns s) = s := by
  simp only [invMixColumns, mixColumns, aesMapColumns, invMixColumn_mixColumn]

/-! ### The inverse cipher -/

theorem invSubBytes_invShiftRows (s : AesState) : invSubBytes (invShiftRows (shiftRows (subBytes s))) = s := by
  simp only [invSubBytes, invShiftRows, shiftRows, subBytes, aesMapColumns, aesMapColumn, invSbox_sbox]

theorem addKeyColumn_addKeyColumn (k : AesColumn) (w : Word) : addKeyColumn (addKeyColumn k w) w = k := by
  simp only [addKeyColumn, BitVec.xor_assoc, BitVec.xor_self, BitVec.xor_zero]

theorem addRoundKey_addRoundKey (u : AesUnit) (n : Nat) (s : AesState) :
    addRoundKey u n (addRoundKey u n s) = s := by
  simp only [addRoundKey, addKeyColumn_addKeyColumn]

/-- A round of the inverse cipher undoes a round of the cipher, each taken between the ShiftRows of two rounds. -/
theorem aesDecRound_aesEncRound (u : AesUnit) (s : AesState) (n : Nat) :
    aesDecRound u (shiftRows (subBytes (aesEncRound u s n))) n = shiftRows (subBytes s) := by
  rw [aesDecRound, invSubBytes_invShiftRows, aesEncRound, addRoundKey_addRoundKey, invMixColumns_mixColumns]

theorem foldl_aesDecRound_foldl_aesEncRound (u : AesUnit) (rounds : List Nat) (s : AesState) :
    rounds.reverse.foldl (aesDecRound u) (shiftRows (subBytes (rounds.foldl (aesEncRound u) s))) =
      shiftRows (subBytes s) := by
  induction rounds generalizing s with
  | nil => rfl
  | cons n rounds ih =>
    simp only [List.reverse_cons, List.foldl_append, List.foldl_cons, List.foldl_nil, ih, aesDecRound_aesEncRound]

theorem aesInvCipher_aesCipher (u : AesUnit) (s : AesState) : aesInvCipher u (aesCipher u s) = s := by
  rw [aesInvCipher, aesCipher, addRoundKey_addRoundKey, foldl_aesDecRound_foldl_aesEncRound,
    invSubBytes_invShiftRows, addRoundKey_addRoundKey]

theorem aesStateOf_aesStateBytes (s : AesState) : aesStateOf (aesStateBytes s) = s := rfl

theorem aesStateBytes_aesStateOf {b : Bytes} (h : b.length = 16) : aesStateBytes (aesStateOf b) = b := by
  refine List.ext_getElem h.symm fun i hi hb => ?_
  have hpos := aesStateBytes_getD (aesStateOf b) ⟨i % 4, by omega⟩ ⟨i / 4, by omega⟩
  rw [aesStateOf_byte] at hpos
  simp only [Nat.mod_add_div] at hpos
  rwa [List.getD_eq_getElem _ _ hi, List.getD_eq_getElem _ _ hb] at hpos

theorem aesDecrypt_aesEncrypt (u : AesUnit) {b : Bytes} (h : b.length = 16) :
    aesDecrypt u (aesEncrypt u b) = b := by
  rw [aesDecrypt, aesEncrypt, aesStateOf_aesStateBytes, aesInvCipher_aesCipher, aesStateBytes_aesStateOf h]

/-! ### The cipher, round by round -/

/-- The state after AddRoundKey(n), for a round `n` before the last (R125). -/
def aesAfterRound (u : AesUnit) (s : AesState) (n : Nat) : AesState :=
  (List.range' 1 n).foldl (aesEncRound u) (addRoundKey u 0 s)

theorem aesAfterRound_succ (u : AesUnit) (s : AesState) (n : Nat) :
    aesAfterRound u s (n + 1) = aesEncRound u (aesAfterRound u s n) (n + 1) := by
  rw [aesAfterRound, List.range'_1_concat, List.foldl_append, Nat.add_comm 1 n]
  rfl

/-- The state after AddRoundKey(n), for every round `n` (R125). -/
def aesStateAt (u : AesUnit) (s : AesState) (n : Nat) : AesState :=
  if n < u.nr then aesAfterRound u s n else aesCipher u s

theorem aesStateAt_zero {u : AesUnit} (h : 0 < u.nr) (s : AesState) : aesStateAt u s 0 = addRoundKey u 0 s := if_pos h

theorem aesStateAt_succ {u : AesUnit} {n : Nat} (h : n + 1 < u.nr) (s : AesState) :
    aesStateAt u s (n + 1) = aesEncRound u (aesStateAt u s n) (n + 1) := by
  rw [aesStateAt, if_pos h, aesAfterRound_succ, aesStateAt, if_pos (by omega)]

theorem aesStateAt_nr (u : AesUnit) (s : AesState) : aesStateAt u s u.nr = aesCipher u s := if_neg (Nat.lt_irrefl _)

theorem aesCipher_eq {u : AesUnit} (h : 0 < u.nr) (s : AesState) :
    aesCipher u s = addRoundKey u u.nr (shiftRows (subBytes (aesStateAt u s (u.nr - 1)))) := by
  rw [aesStateAt, if_pos (by omega)]
  rfl

/-- A full round, byte by byte (R123, R125). -/
theorem aesEncRound_byte (u : AesUnit) (s : AesState) (n : Nat) (r c : Fin 4) : (aesEncRound u s n).byte r c =
    xtime (sbox (s.byte r (c + r))) ^^^
      (xtime (sbox (s.byte (r + 1) (c + (r + 1)))) ^^^ sbox (s.byte (r + 1) (c + (r + 1)))) ^^^
      sbox (s.byte (r + 2) (c + (r + 2))) ^^^ sbox (s.byte (r + 3) (c + (r + 3))) ^^^
      (aesRoundKey u (4 * n + c.val)).extractLsb' (24 - 8 * r.val) 8 := by
  simp only [aesEncRound, addRoundKey_byte, mixColumns_byte, shiftRows_byte, subBytes_byte]

/-- Settles O33: the inverse cipher's rounds cancel the cipher's, and aesStateAt is the sequence of states. -/
theorem aesCipherAndItsInverse : Obligations.AesCipherAndItsInverse := by
  unfold Obligations.AesCipherAndItsInverse
  intro u b hb
  refine ⟨aesDecrypt_aesEncrypt u hb, fun hnr => ?_⟩
  have hpos : 0 < u.nr := by omega
  refine ⟨fun n => (aesStateAt u (aesStateOf b) n).byte, fun r c => ?first, fun n r c hn => ?round, fun r c => ?last,
    aesEncrypt_length u b, fun r c => ?out⟩
  all_goals dsimp only
  case first =>
    rw [aesStateAt_zero hpos, addRoundKey_byte, aesStateOf_byte]
    rfl
  case round =>
    rw [aesStateAt_succ hn, aesEncRound_byte]
    rfl
  case last =>
    rw [aesStateAt_nr, aesCipher_eq hpos, addRoundKey_byte, shiftRows_byte, subBytes_byte]
    rfl
  case out => rw [aesStateAt_nr, aesEncrypt, aesStateBytes_getD]

end Sys2Proof.Machine
end

section
/-! PROOFS. The Blowfish cipher and its inverse (42_blowfish.md R141, R142): F over the numbers of the boxes, the rounds
as a sequence, and each round of decryption undoing one of encryption. -/

namespace Sys2Proof.Machine

/-! ### The tables by number -/

/-- P[n] of the unit (R33), 0 above P[17]. -/
def bfPWord (u : BfUnit) (n : Nat) : Word := u.p.toList.getD n 0

/-- S[k][j] of the unit (R33), 0 above S[k][255]. -/
def bfSWord (u : BfUnit) (k : Fin 4) (j : Nat) : Word := u.s[k].toList.getD j 0

theorem bfPWord_eq_getElem (u : BfUnit) {n : Nat} (h : n < 18) : bfPWord u n = u.p[n] := by
  simp [bfPWord, h]

theorem bfSbox_eq_bfSWord (u : BfUnit) (k : Fin 4) (j : Byte) : bfSbox u k j = bfSWord u k j.toNat := by
  have hj : j.toNat < u.s[k].toList.length := by simpa using j.isLt
  rw [bfSWord, List.getD_eq_getElem _ _ hj]
  rfl

/-- F with the bytes of its argument as numbers (R141). -/
theorem bfF_eq (u : BfUnit) (x : Word) : bfF u x =
    ((bfSWord u 0 (x.toNat / 2 ^ 24) + bfSWord u 1 (x.toNat / 2 ^ 16 % 256)) ^^^ bfSWord u 2 (x.toNat / 2 ^ 8 % 256)) +
      bfSWord u 3 (x.toNat % 256) := by
  have hbyte : ∀ i, (x.extractLsb' i 8).toNat = x.toNat / 2 ^ i % 256 := fun i => by
    rw [BitVec.extractLsb'_toNat, Nat.shiftRight_eq_div_pow]
  have htop : x.toNat / 2 ^ 24 % 256 = x.toNat / 2 ^ 24 := by
    have hx := x.isLt
    omega
  simp only [bfF, bfSbox_eq_bfSWord, hbyte, htop, pow_zero, Nat.div_one]

/-! ### The rounds as a sequence -/

/-- (L, R) after `n` rounds from `lr`, round `i` with the P word `ks i` (R142). -/
def bfRounds (u : BfUnit) (ks : Nat → Word) (lr : Word × Word) : Nat → Word × Word
  | 0 => lr
  | n + 1 => bfRound u (bfRounds u ks lr n) (ks n)

theorem foldl_bfRound (u : BfUnit) (ks : Nat → Word) (lr : Word × Word) (n : Nat) :
    ((List.range n).map ks).foldl (bfRound u) lr = bfRounds u ks lr n := by
  induction n with
  | zero => rfl
  | succ n ih => rw [List.range_succ, List.map_append, List.foldl_append, ih]; rfl

theorem take_p_eq (u : BfUnit) : u.p.toList.take 16 = (List.range 16).map (bfPWord u) := by
  refine List.ext_getElem (by simp) fun i hi _ => ?_
  have hlt : i < 18 := by simp at hi; omega
  simp [bfPWord_eq_getElem u hlt]

theorem reverse_drop_p_eq (u : BfUnit) :
    (u.p.toList.drop 2).reverse = (List.range 16).map (fun n => bfPWord u (17 - n)) := by
  refine List.ext_getElem (by simp) fun i hi _ => ?_
  have hlt : i < 16 := by simpa using hi
  simp [bfPWord_eq_getElem u (n := 17 - i) (by omega), show 2 + (15 - i) = 17 - i by omega]

theorem bfEncryptWords_eq (u : BfUnit) (l r : Word) : bfEncryptWords u l r =
    ((bfRounds u (bfPWord u) (l, r) 16).2 ^^^ bfPWord u 17, (bfRounds u (bfPWord u) (l, r) 16).1 ^^^ bfPWord u 16) := by
  rw [bfEncryptWords, bfCrypt, take_p_eq, foldl_bfRound, bfPWord_eq_getElem u (by decide),
    bfPWord_eq_getElem u (by decide)]

theorem bfDecryptWords_eq (u : BfUnit) (l r : Word) : bfDecryptWords u l r =
    ((bfRounds u (fun n => bfPWord u (17 - n)) (l, r) 16).2 ^^^ bfPWord u 0,
      (bfRounds u (fun n => bfPWord u (17 - n)) (l, r) 16).1 ^^^ bfPWord u 1) := by
  rw [bfDecryptWords, bfCrypt, reverse_drop_p_eq, foldl_bfRound, bfPWord_eq_getElem u (by decide),
    bfPWord_eq_getElem u (by decide)]

/-! ### Decryption undoes encryption -/

/-- A round under `k'` undoes the round under `k₀`, whatever is XORed into the other half: both halves stay swapped. -/
theorem bfRound_undoes (u : BfUnit) (lr : Word × Word) (k₀ k k' : Word) :
    bfRound u ((bfRound u lr k₀).2 ^^^ k', (bfRound u lr k₀).1 ^^^ k) k' = (lr.2 ^^^ k, lr.1 ^^^ k₀) := by
  simp only [bfRound, xor_cancel_right, Prod.mk.injEq, and_true]
  rw [BitVec.xor_assoc _ k, BitVec.xor_comm k, ← BitVec.xor_assoc, xor_cancel_right]

/-- After `n` rounds of decryption the halves are those before the last `n` rounds of encryption, swapped and each
XORed with the P word of its next round. -/
theorem bfRounds_bfEncryptWords (u : BfUnit) (l r : Word) {n : Nat} (hn : n ≤ 16) :
    bfRounds u (fun n => bfPWord u (17 - n)) (bfEncryptWords u l r) n =
      ((bfRounds u (bfPWord u) (l, r) (16 - n)).2 ^^^ bfPWord u (17 - n),
        (bfRounds u (bfPWord u) (l, r) (16 - n)).1 ^^^ bfPWord u (16 - n)) := by
  induction n with
  | zero => exact bfEncryptWords_eq u l r
  | succ n ih =>
    obtain ⟨m, hm⟩ : ∃ m, 16 - n = m + 1 := ⟨15 - n, by omega⟩
    rw [bfRounds, ih (by omega), hm, bfRounds, bfRound_undoes, show 17 - (n + 1) = m + 1 by omega,
      show 16 - (n + 1) = m by omega]

theorem bfDecryptWords_bfEncryptWords (u : BfUnit) (l r : Word) :
    bfDecryptWords u (bfEncryptWords u l r).1 (bfEncryptWords u l r).2 = (l, r) := by
  rw [bfDecryptWords_eq, Prod.mk.eta, bfRounds_bfEncryptWords u l r (le_refl 16)]
  simp only [bfRounds, Nat.sub_self, xor_cancel_right]

/-- Settles O38: the rounds are the sequence bfRounds, and each round of decryption undoes one of encryption. -/
theorem bfCipherAndItsInverse : Obligations.BfCipherAndItsInverse := by
  unfold Obligations.BfCipherAndItsInverse
  intro u l r
  refine ⟨bfDecryptWords_bfEncryptWords u l r,
    ⟨bfRounds u (bfPWord u) (l, r), rfl, fun n _ => ?encRound, bfEncryptWords_eq u l r⟩,
    ⟨bfRounds u (fun n => bfPWord u (17 - n)) (l, r), rfl, fun n _ => ?decRound, bfDecryptWords_eq u l r⟩⟩
  all_goals
    rw [bfRounds, bfRound, bfF_eq]
    rfl

end Sys2Proof.Machine
end

section
/-! PROOFS. The Blowfish schedule (42_blowfish.md R143, R144): its two loops are one sequence of 521 encryptions, each
replacing two words of the unit, from a seed that reads the key cyclically. -/

namespace Sys2Proof.Machine

/-! ### The schedule as one sequence -/

/-- Encryption `n` of the schedule (R143): the first nine fill P, the others S[0] to S[3], 128 each. -/
def bfFillStep (f : BfFill) (n : Nat) : BfFill :=
  if n < 9 then bfFillP f (2 * n) else bfFillS (Fin.ofNat 4 ((n - 9) / 128)) f (2 * ((n - 9) % 128))

/-- The schedule of a key after its first `n` encryptions (R143). -/
def bfFillAt (key : Bytes) : Nat → BfFill
  | 0 => { unit := bfSeed key, l := 0, r := 0 }
  | n + 1 => bfFillStep (bfFillAt key n) n

theorem evens_succ (m : Nat) : evens (m + 1) = evens m ++ [2 * m] := by
  simp [evens, List.range_succ]

theorem bfFillAt_succ_of_lt (key : Bytes) {n : Nat} (h : n < 9) :
    bfFillAt key (n + 1) = bfFillP (bfFillAt key n) (2 * n) := if_pos h

theorem bfFillAt_succ_of_le (key : Bytes) {n : Nat} (h : 9 ≤ n) : bfFillAt key (n + 1) =
    bfFillS (Fin.ofNat 4 ((n - 9) / 128)) (bfFillAt key n) (2 * ((n - 9) % 128)) := if_neg (by omega)

/-- The first loop of R143. -/
theorem foldl_bfFillP (key : Bytes) {m : Nat} (hm : m ≤ 9) :
    (evens m).foldl bfFillP (bfFillAt key 0) = bfFillAt key m := by
  induction m with
  | zero => rfl
  | succ m ih => rw [evens_succ, List.foldl_append, ih (by omega), bfFillAt_succ_of_lt key (by omega)]; rfl

/-- The second loop of R143 on one S-box. -/
theorem foldl_bfFillS (key : Bytes) (k : Fin 4) {m : Nat} (hm : m ≤ 128) :
    (evens m).foldl (bfFillS k) (bfFillAt key (9 + 128 * k)) = bfFillAt key (9 + 128 * k + m) := by
  induction m with
  | zero => rfl
  | succ m ih =>
    have hbox : Fin.ofNat 4 ((9 + 128 * k + m - 9) / 128) = k := by
      refine Fin.ext ?_
      simp only [Fin.val_ofNat]
      omega
    have hword : (9 + 128 * k + m - 9) % 128 = m := by omega
    rw [evens_succ, List.foldl_append, ih (by omega), ← Nat.add_assoc, bfFillAt_succ_of_le key (by omega), hbox, hword]
    rfl

theorem bfSchedule_eq (key : Bytes) : bfSchedule key = (bfFillAt key 521).unit := by
  have hp : (evens 9).foldl bfFillP { unit := bfSeed key, l := 0, r := 0 } = bfFillAt key 9 :=
    foldl_bfFillP key (le_refl 9)
  have hs : ∀ (k : Fin 4) (m n : Nat), m = 9 + 128 * k → n = m + 128 →
      (evens 128).foldl (bfFillS k) (bfFillAt key m) = bfFillAt key n := by
    rintro k _ _ rfl rfl
    exact foldl_bfFillS key k (le_refl 128)
  have hboxes : List.finRange 4 = [0, 1, 2, 3] := rfl
  simp only [bfSchedule, hp, hboxes, List.foldl_cons, List.foldl_nil]
  rw [hs 0 9 137 rfl rfl, hs 1 137 265 rfl rfl, hs 2 265 393 rfl rfl, hs 3 393 521 rfl rfl]

/-! ### What one encryption of the schedule replaces -/

theorem bfFillStep_lr (f : BfFill) (n : Nat) :
    ((bfFillStep f n).l, (bfFillStep f n).r) = bfEncryptWords f.unit f.l f.r := by
  unfold bfFillStep
  split <;> rfl

theorem bfFillStep_kv (f : BfFill) (n : Nat) : (bfFillStep f n).unit.kv = f.unit.kv := by
  unfold bfFillStep
  split <;> rfl

theorem bfFillAt_kv (key : Bytes) (n : Nat) : (bfFillAt key n).unit.kv = true := by
  induction n with
  | zero => rfl
  | succ n ih => rw [bfFillAt, bfFillStep_kv, ih]

theorem getElem_setPair {α : Type} {n : Nat} (v : Vector α n) (j : Nat) (a b : α) (i : Fin n) :
    ((v.setIfInBounds j a).setIfInBounds (j + 1) b)[i] =
      if i.val = j then a else if i.val = j + 1 then b else v[i] := by
  simp only [Fin.getElem_fin, Vector.getElem_setIfInBounds, @eq_comm Nat _ i.val]
  by_cases hj : i.val = j
  · rw [if_neg (by omega), if_pos hj, if_pos hj]
  · simp only [hj, if_false]

theorem bfFillP_p (f : BfFill) (j : Nat) (i : Fin 18) : (bfFillP f j).unit.p[i] =
    if i.val = j then (bfFillP f j).l else if i.val = j + 1 then (bfFillP f j).r else f.unit.p[i] :=
  getElem_setPair f.unit.p j _ _ i

theorem bfFillS_box_same (k : Fin 4) (f : BfFill) (j : Nat) : (bfFillS k f j).unit.s[k] =
    (f.unit.s[k].setIfInBounds j (bfFillS k f j).l).setIfInBounds (j + 1) (bfFillS k f j).r :=
  Vector.getElem_set_self _

theorem bfFillS_box_other {k k' : Fin 4} (h : k ≠ k') (f : BfFill) (j : Nat) :
    (bfFillS k' f j).unit.s[k] = f.unit.s[k] :=
  Vector.getElem_set_ne k'.isLt k.isLt fun hval => h (Fin.ext hval.symm)

theorem bfFillS_s (f : BfFill) (k' : Fin 4) (j' : Nat) (k : Fin 4) (j : Fin 256) : (bfFillS k' f j').unit.s[k][j] =
    if k = k' ∧ j.val = j' then (bfFillS k' f j').l
    else if k = k' ∧ j.val = j' + 1 then (bfFillS k' f j').r
    else f.unit.s[k][j] := by
  obtain rfl | hk := eq_or_ne k k'
  · rw [bfFillS_box_same, getElem_setPair]
    simp only [true_and]
  · rw [bfFillS_box_other hk]
    simp only [hk, false_and, if_false]

/-- The first nine encryptions of the schedule (R143). -/
theorem bfFillAt_succ_p (key : Bytes) {n : Nat} (h : n < 9) (i : Fin 18) : (bfFillAt key (n + 1)).unit.p[i] =
    if i.val = 2 * n then (bfFillAt key (n + 1)).l
    else if i.val = 2 * n + 1 then (bfFillAt key (n + 1)).r
    else (bfFillAt key n).unit.p[i] := by
  rw [bfFillAt_succ_of_lt key h, bfFillP_p]

/-- The other 512 encryptions of the schedule (R143). -/
theorem bfFillAt_succ_s (key : Bytes) {n : Nat} (h : 9 ≤ n) (hlt : n < 521) (k : Fin 4) (j : Fin 256) :
    (bfFillAt key (n + 1)).unit.s[k][j] =
      if k.val = (n - 9) / 128 ∧ j.val = 2 * ((n - 9) % 128) then (bfFillAt key (n + 1)).l
      else if k.val = (n - 9) / 128 ∧ j.val = 2 * ((n - 9) % 128) + 1 then (bfFillAt key (n + 1)).r
      else (bfFillAt key n).unit.s[k][j] := by
  have hbox : k = Fin.ofNat 4 ((n - 9) / 128) ↔ k.val = (n - 9) / 128 := by
    rw [Fin.ext_iff, Fin.val_ofNat, Nat.mod_eq_of_lt (by omega)]
  rw [bfFillAt_succ_of_le key h, bfFillS_s]
  simp only [hbox]

/-! ### The seed -/

theorem wordOf_toNat {s : Bytes} (h : s.length = 4) : (wordOf s).toNat = beNat s := by
  have hlt := beNat_lt s
  rw [h] at hlt
  exact Nat.mod_eq_of_lt hlt

/-- The key word XORed into P[i], its four bytes counted from 0 (R143). -/
theorem bfKeyWord_toNat (key : Bytes) (i : Nat) : (bfKeyWord key i).toNat =
    beNat ((List.range 4).map (fun j => key.getD ((4 * i + j) % key.length) 0)) := by
  rw [bfKeyWord, wordOf_toNat (by simp), List.range'_eq_map_range, List.map_map]
  rfl

theorem bfSeed_p (key : Bytes) (i : Fin 18) : (bfSeed key).p[i] = bfInitP[i] ^^^ bfKeyWord key i.val :=
  Vector.getElem_ofFn _

/-- Settles O35: the tables are evaluated, and the schedule is the sequence bfFillAt. -/
theorem bfScheduleFollowsItsLoops : Obligations.BfScheduleFollowsItsLoops := by
  unfold Obligations.BfScheduleFollowsItsLoops
  refine ⟨by decide +kernel, by decide +kernel, by decide +kernel, by decide +kernel, by decide +kernel, fun key =>
    ⟨fun n => (bfFillAt key n).unit, fun n => ((bfFillAt key n).l, (bfFillAt key n).r), rfl, rfl, rfl,
      fun i => ⟨bfKeyWord key i, bfSeed_p key i, bfKeyWord_toNat key i⟩, fun n => bfFillStep_lr _ n,
      fun n h => ⟨?keptBoxes, fun i => bfFillAt_succ_p key h i⟩,
      fun n h hlt => ⟨?keptP, fun k j => bfFillAt_succ_s key h hlt k j⟩, bfSchedule_eq key⟩⟩
  case keptBoxes =>
    dsimp only
    rw [bfFillAt_succ_of_lt key h]
    rfl
  case keptP =>
    dsimp only
    rw [bfFillAt_succ_of_le key h]
    rfl

/-! ### A repeated key -/

theorem getD_flatten_replicate (key : Bytes) {m i : Nat} (h : i < m * key.length) :
    (List.replicate m key).flatten.getD i 0 = key.getD (i % key.length) 0 := by
  induction m generalizing i with
  | zero => omega
  | succ m ih =>
    rw [List.replicate_succ, List.flatten_cons]
    obtain hi | hi := Nat.lt_or_ge i key.length
    · rw [List.getD_append _ _ _ _ hi, Nat.mod_eq_of_lt hi]
    · rw [List.getD_append_right _ _ _ _ hi, ih (by rw [Nat.succ_mul] at h; omega), ← Nat.mod_eq_sub_mod hi]

/-- A repeated key gives the same bytes when it is used cyclically. -/
theorem bfKeyWord_repeated {key : Bytes} (hkey : key ≠ []) {m : Nat} (hm : 1 ≤ m) (i : Nat) :
    bfKeyWord (List.replicate m key).flatten i = bfKeyWord key i := by
  have hlen : (List.replicate m key).flatten.length = m * key.length := by simp
  have hpos : 0 < m * key.length := Nat.mul_pos hm (List.length_pos_iff.2 hkey)
  simp only [bfKeyWord, hlen, getD_flatten_replicate key (Nat.mod_lt _ hpos), Nat.mod_mul_left_mod]

/-- Settles O36: the schedule reads its key only through the key words of the seed. -/
theorem bfKeysAreUsedCyclically : Obligations.BfKeysAreUsedCyclically := by
  unfold Obligations.BfKeysAreUsedCyclically
  intro key m hkey hm
  have hseed : bfSeed (List.replicate m key).flatten = bfSeed key := by
    simp only [bfSeed, bfKeyWord_repeated hkey hm]
  rw [bfSchedule, hseed, bfSchedule]

end Sys2Proof.Machine
end

section
/-! PROOFS. The Blowfish commands (42_blowfish.md R145 to R147): the outcome of each rule by its checks, and the block's
two words as its halves read big-endian. -/

namespace Sys2Proof.Machine

/-! ### BF_KEY -/

theorem ruleBfKey_of_len_not_ok {s : State} (h : ¬ (1 ≤ s.argN 1 ∧ s.argN 1 ≤ 56)) : ruleBfKey s = .error .keyLen :=
  bind_eq_error.2 (.inl (require_eq_error.2 ⟨by simpa using h, rfl⟩))

theorem ruleBfKey_of_not_inRange {s : State} (hlen : 1 ≤ s.argN 1 ∧ s.argN 1 ≤ 56)
    (h : ¬ s.inRange (s.argN 0) (s.argN 1)) : ruleBfKey s = .error .addr :=
  bind_eq_error.2 (.inr ⟨(), require_eq_ok.2 (by simpa using hlen), bind_eq_error.2 (.inl (checkRange_of_not_le h))⟩)

theorem ruleBfKey_of_inRange {s : State} (hlen : 1 ≤ s.argN 1 ∧ s.argN 1 ≤ 56)
    (h : s.inRange (s.argN 0) (s.argN 1)) :
    ruleBfKey s = .ok { result := true, bf := some (bfSchedule (s.memRead (s.argN 0) (s.argN 1))) } :=
  bind_eq_ok.2 ⟨(), require_eq_ok.2 (by simpa using hlen), bind_eq_ok.2 ⟨(), checkRange_of_le h, rfl⟩⟩

/-- A command whose rule loads the Blowfish unit ends in success and changes nothing else (R253). -/
theorem exec_of_ruleOf_loads_bf {i : Instr} {s : State} {u : BfUnit}
    (h : ruleOf i s = .ok { result := true, bf := some u }) : exec i s = .next { s.ended true with bf := u } :=
  exec_of_ruleOf h

/-- Settles O34: the rule's checks fail in their order, and no encryption of the schedule changes BF_KV. -/
theorem bfKeyLoadsTheSchedule : Obligations.BfKeyLoadsTheSchedule := by
  unfold Obligations.BfKeyLoadsTheSchedule
  intro s
  refine ⟨fun hlen => fails_of_ruleOf (ruleBfKey_of_len_not_ok hlen),
    fun hpos hle hout => fails_of_ruleOf (ruleBfKey_of_not_inRange ⟨hpos, hle⟩ hout),
    fun hpos hle hin => exec_of_ruleOf_loads_bf (ruleBfKey_of_inRange ⟨hpos, hle⟩ hin), fun key => ?kv⟩
  case kv => rw [bfSchedule_eq, bfFillAt_kv]

/-! ### BF_ENC and BF_DEC -/

/-- A range of BF_ENC or BF_DEC outside DMEM (R146, R147). -/
theorem ruleBfBlock_of_not_inRange {f : BfUnit → Word → Word → Word × Word} {s : State}
    (h : ¬ (s.inRange (s.argN 0) 8 ∧ s.inRange (s.argN 1) 8)) : ruleBfBlock f s = .error .addr := by
  by_cases hin : s.inRange (s.argN 0) 8
  · exact bind_eq_error.2 (.inr ⟨(), checkRange_of_le hin,
      bind_eq_error.2 (.inl (checkRange_of_not_le fun hout => h ⟨hin, hout⟩))⟩)
  · exact bind_eq_error.2 (.inl (checkRange_of_not_le hin))

theorem ruleBfBlock_of_no_key {f : BfUnit → Word → Word → Word × Word} {s : State} (hin : s.inRange (s.argN 0) 8)
    (hout : s.inRange (s.argN 1) 8) (hkv : s.bf.kv = false) : ruleBfBlock f s = .error .noKey :=
  bind_eq_error.2 (.inr ⟨(), checkRange_of_le hin, bind_eq_error.2 (.inr ⟨(), checkRange_of_le hout,
    bind_eq_error.2 (.inl (require_eq_error.2 ⟨hkv, rfl⟩))⟩)⟩)

theorem wordOf_eq_of_toNat {s : Bytes} {w : Word} (h : w.toNat = beNat s) : wordOf s = w := by
  rw [wordOf, ← h, BitVec.ofNat_toNat, BitVec.setWidth_eq]

theorem State.memRead_append (s : State) (a m n : Nat) :
    s.memRead a (m + n) = s.memRead a m ++ s.memRead (a + m) n := by
  simp [State.memRead, ← List.range'_append_1]

/-- The transform of a block in DMEM, given the words its halves write (R140). -/
theorem bfBlock_memRead {f : Word → Word → Word × Word} {s : State} {a : Nat} {l r : Word}
    (hl : l.toNat = beNat (s.memRead a 4)) (hr : r.toNat = beNat (s.memRead (a + 4) 4)) :
    bfBlock f (s.memRead a 8) = wordBytes (f l r).1 ++ wordBytes (f l r).2 := by
  have hlen : (s.memRead a 4).length = 4 := s.memRead_length a 4
  rw [bfBlock, s.memRead_append a 4 4, List.take_left' hlen, List.drop_left' hlen, wordOf_eq_of_toNat hl,
    wordOf_eq_of_toNat hr]

/-- Settles O37: both rules are ruleBfBlock, and a block is stored as the two words of its halves. -/
theorem bfBlockCommands : Obligations.BfBlockCommands := by
  unfold Obligations.BfBlockCommands
  intro s i f hif
  have hrule : ruleOf i = ruleBfBlock f := by obtain ⟨rfl, rfl⟩ | ⟨rfl, rfl⟩ := hif <;> rfl
  have hrule' := congrFun hrule s
  refine ⟨fun h => fails_of_ruleOf (hrule'.trans (ruleBfBlock_of_not_inRange h)),
    fun hin hout hkv => fails_of_ruleOf (hrule'.trans (ruleBfBlock_of_no_key hin hout hkv)),
    fun hin hout hkv l r hl hr => ?stored⟩
  case stored =>
    have hstores := stores_of_ruleOf (hrule'.trans (ruleBfBlock_eq_ok.2 ⟨hin, hout, hkv, rfl⟩))
    rwa [bfBlock_memRead hl hr] at hstores

end Sys2Proof.Machine
end

section
/-! PROOFS. The GF(2^128) multiplier (43_ghash.md R160, R161): its loop is linear and commutes with multiplication by x,
hence the product is commutative and associative, with the block 80..00 as its identity. -/

namespace Sys2Proof.Machine

/-! ### Multiplication by x -/

theorem gfShift_eq (v : Block) : gfShift v = (v >>> 1) ^^^ (if v.getLsbD 0 then gfReduction else 0) := by
  rw [gfShift]
  split
  · rfl
  · simp

/-- Multiplication by x is linear: the reduction depends on one bit only. -/
theorem gfShift_xor (a b : Block) : gfShift (a ^^^ b) = gfShift a ^^^ gfShift b := by
  have hred : (if a.getLsbD 0 ^^ b.getLsbD 0 then gfReduction else 0) =
      (if a.getLsbD 0 then gfReduction else 0) ^^^ (if b.getLsbD 0 then gfReduction else 0) := by
    cases a.getLsbD 0 <;> cases b.getLsbD 0 <;> simp
  simp only [gfShift_eq, BitVec.ushiftRight_xor_distrib, BitVec.getLsbD_xor, hred]
  ac_rfl

/-- x^k times x is x^(k+1) where no reduction is needed; x^k is the block with bit 127 - k alone set (R160). -/
theorem gfShift_twoPow_succ {n : Nat} (hn : n < 127) : gfShift (BitVec.twoPow 128 (n + 1)) = BitVec.twoPow 128 n := by
  refine BitVec.eq_of_getLsbD_eq fun i _ => ?_
  have hlow : ¬ (BitVec.twoPow 128 (n + 1)).getLsbD 0 = true := by simp
  rw [gfShift, if_neg hlow, BitVec.getLsbD_ushiftRight, BitVec.getLsbD_twoPow, BitVec.getLsbD_twoPow]
  have hlt : n + 1 < 128 ∧ n < 128 := by omega
  have hbit : n + 1 = 1 + i ↔ n = i := by omega
  simp [hlt, hbit]

/-! ### The loop -/

/-- The loop is linear in the two blocks it shifts and sums. -/
theorem gfMultLoop_xor (n : Nat) (x v w z u : Block) :
    gfMultLoop n x (v ^^^ w) (z ^^^ u) = gfMultLoop n x v z ^^^ gfMultLoop n x w u := by
  induction n generalizing v w z u with
  | zero => rfl
  | succ n ih =>
    simp only [gfMultLoop, gfShift_xor, ← ih]
    congr 1
    split
    · ac_rfl
    · rfl

/-- A map that is linear and commutes with multiplication by x commutes with the loop. -/
theorem map_gfMultLoop {f : Block → Block} (hxor : ∀ a b, f (a ^^^ b) = f a ^^^ f b)
    (hshift : ∀ a, f (gfShift a) = gfShift (f a)) (n : Nat) (x v z : Block) :
    f (gfMultLoop n x v z) = gfMultLoop n x (f v) (f z) := by
  induction n generalizing v z with
  | zero => rfl
  | succ n ih => rw [gfMultLoop, ih, hshift, apply_ite f, hxor, gfMultLoop]

/-- The bits of a block from bit `n` upwards, the others 0. -/
def bitsFrom (x : Block) (n : Nat) : Block := (x >>> n) <<< n

theorem getLsbD_bitsFrom (x : Block) (n : Nat) {i : Nat} (hi : i < 128) :
    (bitsFrom x n).getLsbD i = (decide (n ≤ i) && x.getLsbD i) := by
  obtain h | h := Nat.lt_or_ge i n
  · simp [bitsFrom, h]
  · simp [bitsFrom, h, hi]

theorem bitsFrom_eq_bitsFrom_succ (x : Block) {n : Nat} (hn : n < 128) :
    bitsFrom x n = if x.getLsbD n then bitsFrom x (n + 1) ^^^ BitVec.twoPow 128 n else bitsFrom x (n + 1) := by
  refine BitVec.eq_of_getLsbD_eq fun i hi => ?_
  simp only [apply_ite (BitVec.getLsbD · i), BitVec.getLsbD_xor, getLsbD_bitsFrom x _ hi, BitVec.getLsbD_twoPow]
  obtain rfl | hne := eq_or_ne n i
  · simp [hn]
  · have hle : n ≤ i ↔ n + 1 ≤ i := by omega
    simp [hne, hle]

theorem bitsFrom_zero (x : Block) : bitsFrom x 0 = x := by simp [bitsFrom]

theorem bitsFrom_width (x : Block) : bitsFrom x 128 = 0 := by simp [bitsFrom]

/-- Where the shifted block is the power of x of the next bit, the loop adds up the bits of x that are still to use. -/
theorem gfMultLoop_twoPow (x : Block) {n : Nat} (hn : n < 128) :
    gfMultLoop (n + 1) x (BitVec.twoPow 128 n) (bitsFrom x (n + 1)) = x := by
  induction n with
  | zero => rw [gfMultLoop, ← bitsFrom_eq_bitsFrom_succ x hn, gfMultLoop, bitsFrom_zero]
  | succ n ih =>
    rw [gfMultLoop, ← bitsFrom_eq_bitsFrom_succ x hn, gfShift_twoPow_succ (by omega), ih (by omega)]

/-! ### The product -/

theorem gfMult_xor (a b c : Block) : gfMult a (b ^^^ c) = gfMult a b ^^^ gfMult a c :=
  gfMultLoop_xor 128 a b c 0 0

theorem gfMult_zero (a : Block) : gfMult a 0 = 0 := by simpa using gfMult_xor a 0 0

theorem gfMult_one (a : Block) : gfMult a 0x80000000000000000000000000000000 = a := by
  have hone : (0x80000000000000000000000000000000 : Block) = BitVec.twoPow 128 127 := by decide
  rw [gfMult, hone, ← bitsFrom_width a]
  exact gfMultLoop_twoPow a (show 127 < 128 by decide)

/-- A map that is linear and commutes with multiplication by x commutes with multiplication by every block. -/
theorem map_gfMult {f : Block → Block} (hxor : ∀ a b, f (a ^^^ b) = f a ^^^ f b)
    (hshift : ∀ a, f (gfShift a) = gfShift (f a)) (a b : Block) : f (gfMult a b) = gfMult a (f b) := by
  have hzero : f 0 = 0 := by simpa using hxor 0 0
  rw [gfMult, map_gfMultLoop hxor hshift, hzero, gfMult]

theorem gfMult_gfShift (a b : Block) : gfMult a (gfShift b) = gfShift (gfMult a b) :=
  (map_gfMult gfShift_xor (fun _ => rfl) a b).symm

theorem gfMult_left_comm (a b c : Block) : gfMult a (gfMult b c) = gfMult b (gfMult a c) :=
  map_gfMult (gfMult_xor a) (gfMult_gfShift a) b c

theorem gfMult_comm (a b : Block) : gfMult a b = gfMult b a := by
  simpa only [gfMult_one] using gfMult_left_comm a b 0x80000000000000000000000000000000

theorem gfMult_assoc (a b c : Block) : gfMult (gfMult a b) c = gfMult a (gfMult b c) := by
  rw [gfMult_comm _ c, gfMult_left_comm, gfMult_comm c b]

/-- The block 40..00 is x, so the product with it is the multiplication by x. -/
theorem gfMult_x_eq_gfShift (a : Block) : gfMult a 0x40000000000000000000000000000000 = gfShift a := by
  have hx : (0x40000000000000000000000000000000 : Block) = gfShift 0x80000000000000000000000000000000 := by decide
  rw [hx, gfMult_gfShift, gfMult_one]

/-- Settles O43: the laws come from the loop's linearity, and the product with 40..00 is the multiplication by x. -/
theorem gfMultIsThePolynomialProduct : Obligations.GfMultIsThePolynomialProduct := by
  unfold Obligations.GfMultIsThePolynomialProduct
  refine ⟨gfMult_comm, gfMult_assoc, gfMult_xor, gfMult_zero, gfMult_one, fun k hk => ?power, ?reduction⟩
  case power =>
    rw [gfMult_x_eq_gfShift, show 127 - k = 126 - k + 1 by omega]
    exact gfShift_twoPow_succ (by omega)
  case reduction =>
    rw [gfMult_x_eq_gfShift]
    decide

end Sys2Proof.Machine
end

section
/-! PROOFS. The GH commands and the comparator (43_ghash.md R162 to R171): the outcome of each rule by its checks, the
GHASH fold as the sequence of its accumulators, and the OR of the byte differences. -/

namespace Sys2Proof.Machine

/-! ### Rules that begin with a range check -/

theorem checkRange_bind_of_inRange {α : Type} {s : State} {a n : Nat} {f : Unit → Except ErrCode α}
    (h : s.inRange a n) : (checkRange s a n >>= f) = f () := by
  rw [checkRange_of_le h]
  rfl

/-- A range check fails the rule with ADDR, or leaves that to the steps behind it. -/
theorem checkRange_bind_eq_addr {α : Type} {s : State} {a n : Nat} {f : Unit → Except ErrCode α}
    (h : s.inRange a n → f () = .error .addr) : (checkRange s a n >>= f) = .error .addr := by
  by_cases hin : s.inRange a n
  · rw [checkRange_bind_of_inRange hin, h hin]
  · exact bind_eq_error.2 (.inl (checkRange_of_not_le hin))

theorem checkRange_bind_of_not_inRange {α : Type} {s : State} {a n : Nat} {f : Unit → Except ErrCode α}
    (h : ¬ s.inRange a n) : (checkRange s a n >>= f) = .error .addr :=
  checkRange_bind_eq_addr fun hin => absurd hin h

/-! ### H and X -/

theorem blockOf_eq_of_toNat {bs : Bytes} {b : Block} (h : b.toNat = beNat bs) : blockOf bs = b := by
  rw [blockOf, ← h, BitVec.ofNat_toNat, BitVec.setWidth_eq]

/-- A command whose rule loads the GH unit ends in success and changes nothing else (R253). -/
theorem exec_of_ruleOf_loads_gh {i : Instr} {s : State} {u : GhUnit}
    (h : ruleOf i s = .ok { result := true, gh := some u }) : exec i s = .next { s.ended true with gh := u } :=
  exec_of_ruleOf h

theorem ruleGhSetH_of_inRange {s : State} (h : s.inRange (s.argN 0) 16) {b : Block}
    (hb : b.toNat = beNat (s.memRead (s.argN 0) 16)) :
    ruleGhSetH s = .ok { result := true, gh := some { s.gh with h := b, hv := true } } := by
  rw [← blockOf_eq_of_toNat hb]
  exact checkRange_bind_of_inRange h

theorem ruleGhLoadX_of_inRange {s : State} (h : s.inRange (s.argN 0) 16) {b : Block}
    (hb : b.toNat = beNat (s.memRead (s.argN 0) 16)) :
    ruleGhLoadX s = .ok { result := true, gh := some { s.gh with x := b } } := by
  rw [← blockOf_eq_of_toNat hb]
  exact checkRange_bind_of_inRange h

theorem ruleGhDeriveH_of_no_key {s : State} (h : s.aes.kv = false) : ruleGhDeriveH s = .error .noKey :=
  bind_eq_error.2 (.inl (require_eq_error.2 ⟨h, rfl⟩))

theorem ruleGhDeriveH_of_key {s : State} (h : s.aes.kv = true) {b : Block}
    (hb : b.toNat = beNat (aesEncrypt s.aes (zeroBytes 16))) :
    ruleGhDeriveH s = .ok { result := true, gh := some { s.gh with h := b, hv := true } } := by
  unfold ruleGhDeriveH
  rw [h, blockOf_eq_of_toNat hb]
  rfl

/-- Settles O39: each of the four rules is one check, or none, and then loads the GH unit. -/
theorem ghSubkeyAndAccumulatorCommands : Obligations.GhSubkeyAndAccumulatorCommands := by
  unfold Obligations.GhSubkeyAndAccumulatorCommands
  intro s
  exact ⟨fun hout => ⟨fails_of_ruleOf (checkRange_bind_of_not_inRange hout),
      fails_of_ruleOf (checkRange_bind_of_not_inRange hout)⟩,
    fun hin b hb => ⟨exec_of_ruleOf_loads_gh (ruleGhSetH_of_inRange hin hb),
      exec_of_ruleOf_loads_gh (ruleGhLoadX_of_inRange hin hb)⟩,
    fun hkv => fails_of_ruleOf (ruleGhDeriveH_of_no_key hkv),
    fun hkv b hb => exec_of_ruleOf_loads_gh (ruleGhDeriveH_of_key hkv hb),
    exec_of_ruleOf_loads_gh rfl⟩

/-! ### The fold -/

theorem ghashFold_succ (h x : Block) (data : Bytes) (n : Nat) :
    ghashFold h x data (n + 1) = gfMult (ghashFold h x data n ^^^ ghashBlock data n) h := by
  rw [ghashFold, List.range_succ, List.foldl_append, List.foldl_cons, List.foldl_nil, ghashFold]

/-- The recurrence of R162 determines the fold. -/
theorem ghashFold_eq_of_recurrence {h x : Block} {data : Bytes} {n : Nat} {y : Nat → Block} (hzero : y 0 = x)
    (hsucc : ∀ i, i < n → y (i + 1) = gfMult (y i ^^^ ghashBlock data i) h) : ghashFold h x data n = y n := by
  induction n with
  | zero => exact hzero.symm
  | succ n ih =>
    rw [ghashFold_succ, ih fun i hi => hsucc i (Nat.lt_succ_of_lt hi), hsucc n (Nat.lt_succ_self n)]

theorem ghashBlock_take (data : Bytes) {n i : Nat} (hi : i < n) :
    ghashBlock (data.take (16 * n)) i = ghashBlock data i := by
  rw [ghashBlock, List.drop_take, List.take_take, min_eq_left (by omega), ghashBlock]

theorem ghashBlock_drop (data : Bytes) (n i : Nat) :
    ghashBlock (data.drop (16 * n)) i = ghashBlock data (n + i) := by
  rw [ghashBlock, List.drop_drop, ← Nat.mul_add, ghashBlock]

/-- Block `i` of a range is the 16 bytes at its address (R167). -/
theorem ghashBlock_memRead (s : State) (a : Nat) {n i : Nat} (hi : i < n) :
    ghashBlock (s.memRead a (16 * n)) i = blockOf (s.memRead (a + 16 * i) 16) := by
  obtain ⟨k, rfl⟩ := Nat.exists_eq_add_of_lt hi
  rw [ghashBlock, show 16 * (i + k + 1) = 16 * i + (16 + 16 * k) by omega, State.memRead_append,
    List.drop_left' (s.memRead_length _ _), State.memRead_append, List.take_left' (s.memRead_length _ _)]

/-- Settles O41: the accumulators of the whole fold are those of its two parts, one after the other. -/
theorem ghashResumes : Obligations.GhashResumes := by
  unfold Obligations.GhashResumes
  intro h x data n m _
  have hfirst : ghashFold h x (data.take (16 * n)) n = ghashFold h x data n :=
    ghashFold_eq_of_recurrence rfl fun i hi => by rw [ghashBlock_take data hi, ghashFold_succ]
  rw [hfirst]
  exact ghashFold_eq_of_recurrence (y := fun i => ghashFold h x data (n + i)) rfl fun i _ => by
    rw [ghashBlock_drop, ← ghashFold_succ, Nat.add_assoc]

theorem ruleGhUpdate_of_no_key {s : State} (hin : s.inRange (s.argN 0) (16 * s.argN 1)) (hhv : s.gh.hv = false) :
    ruleGhUpdate s = .error .noKey :=
  (checkRange_bind_of_inRange hin).trans (by rw [hhv]; rfl)

theorem ruleGhUpdate_of_key {s : State} (hin : s.inRange (s.argN 0) (16 * s.argN 1)) (hhv : s.gh.hv = true) :
    ruleGhUpdate s = .ok { result := true, gh := some { s.gh with
      x := ghashFold s.gh.h s.gh.x (s.memRead (s.argN 0) (16 * s.argN 1)) (s.argN 1) } } :=
  (checkRange_bind_of_inRange hin).trans (by rw [hhv]; rfl)

/-- Settles O40: the blocks of the fold are those in DMEM, so its accumulators are the sequence. -/
theorem ghUpdateFoldsBlocks : Obligations.GhUpdateFoldsBlocks := by
  unfold Obligations.GhUpdateFoldsBlocks
  intro s
  refine ⟨fun hout => fails_of_ruleOf (checkRange_bind_of_not_inRange hout),
    fun hin hhv => fails_of_ruleOf (ruleGhUpdate_of_no_key hin hhv), fun hin hhv x hzero hsucc => ?folded⟩
  case folded =>
    have hfold : ghashFold s.gh.h s.gh.x (s.memRead (s.argN 0) (16 * s.argN 1)) (s.argN 1) = x (s.argN 1) :=
      ghashFold_eq_of_recurrence hzero fun i hi => by rw [ghashBlock_memRead s _ hi, hsucc i hi]
    rw [exec_of_ruleOf_loads_gh (i := .ghUpdate) (ruleGhUpdate_of_key hin hhv), hfold]

/-! ### GH_STOREX and GF_MUL -/

theorem ruleGhStoreX_of_inRange {s : State} (h : s.inRange (s.argN 0) 16) :
    ruleGhStoreX s = .ok { result := true, dmem := some (s.argN 0, blockBytes s.gh.x) } :=
  checkRange_bind_of_inRange h

theorem ruleGfMul_of_not_inRange {s : State}
    (h : ¬ (s.inRange (s.argN 0) 16 ∧ s.inRange (s.argN 1) 16 ∧ s.inRange (s.argN 2) 16)) :
    ruleGfMul s = .error .addr :=
  checkRange_bind_eq_addr fun h0 => checkRange_bind_eq_addr fun h1 =>
    checkRange_bind_of_not_inRange fun h2 => h ⟨h0, h1, h2⟩

theorem ruleGfMul_of_inRange {s : State} (h0 : s.inRange (s.argN 0) 16) (h1 : s.inRange (s.argN 1) 16)
    (h2 : s.inRange (s.argN 2) 16) {a b : Block} (ha : a.toNat = beNat (s.memRead (s.argN 0) 16))
    (hb : b.toNat = beNat (s.memRead (s.argN 1) 16)) :
    ruleGfMul s = .ok { result := true, dmem := some (s.argN 2, blockBytes (gfMult a b)) } := by
  rw [← blockOf_eq_of_toNat ha, ← blockOf_eq_of_toNat hb]
  exact (checkRange_bind_of_inRange h0).trans
    ((checkRange_bind_of_inRange h1).trans (checkRange_bind_of_inRange h2))

/-- Settles O42: each of the two rules is its range checks and then one MemWrite of a block. -/
theorem ghStoreCommands : Obligations.GhStoreCommands := by
  unfold Obligations.GhStoreCommands
  intro s
  exact ⟨fun hout => fails_of_ruleOf (checkRange_bind_of_not_inRange hout),
    fun hin => stores_of_ruleOf (ruleGhStoreX_of_inRange hin),
    fun hout => fails_of_ruleOf (ruleGfMul_of_not_inRange hout),
    fun h0 h1 h2 _ _ ha hb => stores_of_ruleOf (ruleGfMul_of_inRange h0 h1 h2 ha hb)⟩

/-! ### The comparator -/

theorem foldl_or_eq_zero_iff (bs : Bytes) (d : Byte) :
    bs.foldl (· ||| ·) d = 0 ↔ d = 0 ∧ ∀ b ∈ bs, b = 0 := by
  induction bs generalizing d with
  | nil => simp
  | cons b bs ih =>
    rw [List.foldl_cons, ih, List.forall_mem_cons, ← and_assoc]
    exact and_congr_left' BitVec.or_eq_zero_iff

theorem zipWith_xor_eq_zero_iff {a b : Bytes} (hlen : a.length = b.length) :
    (∀ d ∈ List.zipWith (· ^^^ ·) a b, d = 0) ↔ a = b := by
  induction a generalizing b with
  | nil => simp [List.length_eq_zero_iff.1 hlen.symm]
  | cons x a ih =>
    cases b with
    | nil => cases hlen
    | cons y b =>
      rw [List.zipWith_cons_cons, List.forall_mem_cons, ih (Nat.succ.inj hlen), List.cons.injEq]
      exact and_congr_left' BitVec.xor_eq_zero_iff

/-- The OR of the byte differences is 0 exactly for equal strings (R171). -/
theorem byteDifference_eq_zero_iff {a b : Bytes} (hlen : a.length = b.length) : byteDifference a b = 0 ↔ a = b := by
  rw [byteDifference, foldl_or_eq_zero_iff, zipWith_xor_eq_zero_iff hlen, eq_self, true_and]

theorem State.memRead_eq_memRead_iff (s : State) (a b n : Nat) :
    s.memRead a n = s.memRead b n ↔ ∀ k, k < n → s.readByte (a + k) = s.readByte (b + k) := by
  simp [List.ext_getElem_iff, State.memRead_getElem]

theorem ruleCtCompare_of_not_inRange {s : State}
    (h : ¬ (s.inRange (s.argN 0) (s.argN 2) ∧ s.inRange (s.argN 1) (s.argN 2))) : ruleCtCompare s = .error .addr :=
  checkRange_bind_eq_addr fun h0 => checkRange_bind_of_not_inRange fun h1 => h ⟨h0, h1⟩

theorem ruleCtCompare_of_inRange {s : State} (h0 : s.inRange (s.argN 0) (s.argN 2))
    (h1 : s.inRange (s.argN 1) (s.argN 2)) : ruleCtCompare s = .ok {
      result := byteDifference (s.memRead (s.argN 0) (s.argN 2)) (s.memRead (s.argN 1) (s.argN 2)) == 0 } :=
  (checkRange_bind_of_inRange h0).trans (checkRange_bind_of_inRange h1)

/-- Settles O44: the rule's verdict is that the byte differences of the two strings are 0. -/
theorem ctCompareDecidesEquality : Obligations.CtCompareDecidesEquality := by
  unfold Obligations.CtCompareDecidesEquality
  intro s
  refine ⟨fun hout => fails_of_ruleOf (ruleCtCompare_of_not_inRange hout),
    fun h0 h1 => ⟨_, exec_of_ruleOf (i := .ctCompare) (ruleCtCompare_of_inRange h0 h1), ?verdict⟩⟩
  case verdict =>
    rw [beq_iff_eq, byteDifference_eq_zero_iff (by simp), State.memRead_eq_memRead_iff]

end Sys2Proof.Machine
end

section
/-! PROOFS. Points of the EC unit (44_weierstrass.md R181 to R184): the two point encodings undo each other, both group
operations draw one line through their points, and over a prime field that line is the one of Mathlib's group law. -/

namespace Sys2Proof.Machine

/-! ### Point strings -/

theorem beBytes_beNat (s : Bytes) : beBytes s.length (beNat s) = s := by
  have h := leBytes_leNat s.reverse
  rw [List.length_reverse, leNat, List.reverse_reverse] at h
  rw [beBytes, h, List.reverse_reverse]

theorem pointX_append {l : Nat} {tag : Byte} {xs : Bytes} (hxs : xs.length = l) (ys : Bytes) :
    pointX l (tag :: (xs ++ ys)) = beNat xs :=
  congrArg beNat (List.take_left' hxs)

theorem pointY_append {l : Nat} {tag : Byte} {xs : Bytes} (hxs : xs.length = l) (ys : Bytes) :
    pointY l (tag :: (xs ++ ys)) = beNat ys := by
  rw [pointY, Nat.add_comm]
  exact congrArg beNat (List.drop_left' hxs)

/-- decode of a string with the tag of an affine point is its range check (R181). -/
theorem decodePoint_affine (c : Curve) (l : Nat) (s : Bytes) : decodePoint c l (0x04 :: s) =
    require (pointX l (0x04 :: s) < c.p && pointY l (0x04 :: s) < c.p) .range >>= fun _ =>
      .ok (.affine (pointX l (0x04 :: s)) (pointY l (0x04 :: s))) := rfl

theorem decodePoint_of_bad_tag {tag : Byte} (h0 : tag ≠ 0x00) (h4 : tag ≠ 0x04) (c : Curve) (l : Nat) (s : Bytes) :
    decodePoint c l (tag :: s) = .error .point :=
  (if_neg h0).trans (bind_eq_error.2 (.inl (require_eq_error.2 ⟨beq_false_of_ne h4, rfl⟩)))

/-- Settles O46: decode splits on the tag, and be_L of BE of a coordinate's bytes is those bytes. -/
theorem pointEncoding : Obligations.PointEncoding := by
  unfold Obligations.PointEncoding
  intro c l tag xs ys hxs hys
  refine ⟨?infinity, fun h0 h4 => decodePoint_of_bad_tag h0 h4 c l _, ?outOfRange, ?affine, ?zeros⟩
  case infinity =>
    rintro rfl
    rfl
  case outOfRange =>
    rintro rfl hout
    rw [decodePoint_affine, pointX_append hxs, pointY_append hxs]
    exact bind_eq_error.2 (.inl (require_eq_error.2 ⟨by simpa using hout, rfl⟩))
  case affine =>
    rintro rfl hx hy
    constructor
    · rw [decodePoint_affine, pointX_append hxs, pointY_append hxs]
      exact bind_eq_ok.2 ⟨(), require_eq_ok.2 (by simp [hx, hy]), rfl⟩
    · subst hxs
      rw [encodePoint, beBytes_beNat, ← hys, beBytes_beNat]
  case zeros =>
    rw [Nat.add_comm]
    rfl

/-! ### The line through two points -/

/-- The step both group operations share: the third point on the line through (x1, y1) of slope `num / den`, where the
other intersection has first coordinate x2 (R183, R184). -/
def linePoint (c : Curve) (num den : Int) (x1 y1 x2 : Nat) : Except ErrCode Point := do
  let inv ← invMod c.p (zmod c.p den)
  .ok (chord c (zmod c.p (num * inv)) x1 y1 x2)

theorem ecDbl_eq_linePoint (c : Curve) (x1 : Nat) {y1 : Nat} (h : y1 ≠ 0) :
    ecDbl c (.affine x1 y1) = linePoint c (3 * (x1 : Int) ^ 2 + c.a) (2 * y1) x1 y1 x1 :=
  if_neg h

theorem ecAdd_eq_linePoint (c : Curve) {x1 x2 : Nat} (y1 y2 : Nat) (h : x1 ≠ x2) :
    ecAdd c (.affine x1 y1) (.affine x2 y2) = linePoint c ((y2 : Int) - y1) ((x2 : Int) - x1) x1 y1 x2 :=
  if_neg h

theorem ecAdd_of_opposite (c : Curve) (x : Nat) {y1 y2 : Nat} (h : (y1 + y2) % c.p = 0) :
    ecAdd c (.affine x y1) (.affine x y2) = .ok .infinity :=
  (if_pos rfl).trans (if_pos (by rw [zmod]; exact_mod_cast h))

theorem ecAdd_of_not_opposite (c : Curve) (x : Nat) {y1 y2 : Nat} (h : (y1 + y2) % c.p ≠ 0) :
    ecAdd c (.affine x y1) (.affine x y2) = ecDbl c (.affine x y1) :=
  (if_pos rfl).trans (if_neg (by rw [zmod]; exact_mod_cast h))

theorem gcd_zmod {m : Nat} (hm : 0 < m) (v : Int) : Nat.gcd (zmod m v) m = Int.gcd v m := by
  rw [← Int.gcd_natCast_natCast, zmod_cast hm, Int.gcd_emod]

theorem linePoint_of_gcd_ne_one {c : Curve} (hp : 0 < c.p) (num : Int) {den : Int} (h : Int.gcd den c.p ≠ 1)
    (x1 y1 x2 : Nat) : linePoint c num den x1 y1 x2 = .error .noInv :=
  bind_eq_error.2 (.inl (invMod_of_gcd_ne_one (by rwa [gcd_zmod hp])))

/-- The slope is the one number modulo p that times `den` gives `num`. -/
theorem linePoint_of_gcd_eq_one {c : Curve} (hp : 0 < c.p) (num : Int) {den : Int} (h : Int.gcd den c.p = 1)
    (x1 y1 x2 : Nat) :
    ∃ lam : Nat, linePoint c num den x1 y1 x2 = .ok (chord c lam x1 y1 x2) ∧ lam * den ≡ num [ZMOD c.p] := by
  obtain ⟨inv, hok, -, hinv⟩ := invMod_of_gcd_eq_one hp ((gcd_zmod hp den).trans h)
  refine ⟨_, bind_eq_ok.2 ⟨inv, hok, rfl⟩, ?_⟩
  have hunit : (inv : Int) * den ≡ 1 [ZMOD c.p] := calc
    (inv : Int) * den ≡ inv * zmod c.p den [ZMOD c.p] := (zmod_modEq hp den).symm.mul_left _
    _ = (zmod c.p den * inv : Nat) := by push_cast; ring
    _ ≡ 1 [ZMOD c.p] := by exact_mod_cast Int.natCast_modEq_iff.2 hinv
  calc (zmod c.p (num * inv) : Int) * den ≡ num * inv * den [ZMOD c.p] := (zmod_modEq hp _).mul_right _
    _ = num * (inv * den) := mul_assoc _ _ _
    _ ≡ num * 1 [ZMOD c.p] := hunit.mul_left _
    _ = num := mul_one _

theorem sub_zmod_emod {m : Nat} (hm : 0 < m) (v : Int) : (v - zmod m v) % m = 0 :=
  Int.emod_eq_zero_of_dvd (zmod_modEq hm v).dvd

/-- R183, R184 over any modulus: NOINV where `den` has no inverse, and else the coordinates the slope gives. -/
theorem linePoint_formula {c : Curve} (hp : 0 < c.p) (num den : Int) (x1 y1 x2 : Nat) :
    (Int.gcd den c.p ≠ 1 → linePoint c num den x1 y1 x2 = .error .noInv) ∧
    (Int.gcd den c.p = 1 → ∃ lam x3 y3 : Nat, linePoint c num den x1 y1 x2 = .ok (.affine x3 y3) ∧
      x3 < c.p ∧ y3 < c.p ∧ (lam * den - num) % c.p = 0 ∧
      (((lam : Int) ^ 2 - x1 - x2) - x3) % c.p = 0 ∧
      (((lam : Int) * ((x1 : Int) - x3) - y1) - y3) % c.p = 0) := by
  refine ⟨fun h => linePoint_of_gcd_ne_one hp num h x1 y1 x2, fun h => ?_⟩
  obtain ⟨lam, hok, hlam⟩ := linePoint_of_gcd_eq_one hp num h x1 y1 x2
  exact ⟨lam, _, _, hok, zmod_lt hp _, zmod_lt hp _, Int.emod_eq_zero_of_dvd hlam.symm.dvd, sub_zmod_emod hp _,
    sub_zmod_emod hp _⟩

/-! ### The curve over a prime field -/

/-- The curve of R180 over Z_p, as Mathlib's Weierstrass curve. -/
def Curve.weierstrass (c : Curve) : WeierstrassCurve.Affine (ZMod c.p) :=
  { a₁ := 0, a₂ := 0, a₃ := 0, a₄ := c.a, a₆ := c.b }

theorem natCast_zmod {m : Nat} (hm : 0 < m) (v : Int) : ((zmod m v : Nat) : ZMod m) = v := by
  exact_mod_cast (ZMod.intCast_eq_intCast_iff _ _ m).2 (zmod_modEq hm v)

theorem zmod_eq_zero_iff {m : Nat} (hm : 0 < m) (v : Int) : zmod m v = 0 ↔ (v : ZMod m) = 0 := by
  rw [ZMod.intCast_zmod_eq_zero_iff_dvd, Int.dvd_iff_emod_eq_zero, ← zmod_cast hm, Int.natCast_eq_zero]

theorem onCurve_iff_equation {c : Curve} (hp : 0 < c.p) (x y : Nat) :
    onCurve c x y = true ↔ c.weierstrass.Equation (x : ZMod c.p) y := by
  rw [onCurve, beq_iff_eq, zmod_eq_zero_iff hp, WeierstrassCurve.Affine.equation_iff']
  simp [Curve.weierstrass]

theorem gcd_eq_one_of_ne_zero {p : Nat} (hp : p.Prime) {d : Int} (h : (d : ZMod p) ≠ 0) : Int.gcd d p = 1 := by
  rw [Int.gcd_comm]
  exact (hp.coprime_iff_not_dvd).2 fun hdvd =>
    h ((ZMod.intCast_zmod_eq_zero_iff_dvd d p).2 (Int.natCast_dvd.2 hdvd))

theorem chord_reduced {c : Curve} (hp : 0 < c.p) (lam x1 y1 x2 : Nat) : (chord c lam x1 y1 x2).reduced c :=
  ⟨zmod_lt hp _, zmod_lt hp _⟩

/-- The coordinates of `chord` are Mathlib's addition formulas, reduced modulo p. -/
theorem chord_valid_iff {c : Curve} (hp : 0 < c.p) (lam x1 y1 x2 : Nat) :
    (chord c lam x1 y1 x2).valid c = true ↔
      c.weierstrass.Equation (c.weierstrass.addX (x1 : ZMod c.p) x2 lam)
        (c.weierstrass.addY (x1 : ZMod c.p) x2 y1 lam) := by
  rw [chord, Point.valid, onCurve_iff_equation hp, natCast_zmod hp, natCast_zmod hp]
  refine iff_of_eq (congrArg₂ _ ?coordX ?coordY)
  case coordX => simp [WeierstrassCurve.Affine.addX, Curve.weierstrass]
  case coordY =>
    simp [natCast_zmod hp, WeierstrassCurve.Affine.addX, WeierstrassCurve.Affine.addY,
      WeierstrassCurve.Affine.negAddY, WeierstrassCurve.Affine.negY, Curve.weierstrass]
    ring

section
variable {c : Curve} {x1 y1 x2 y2 : Nat}

/-- Two points that are not opposite, with the slope of the line through them: the chord is Mathlib's sum. -/
theorem chord_valid [Fact c.p.Prime] (h1 : c.weierstrass.Equation (x1 : ZMod c.p) y1)
    (h2 : c.weierstrass.Equation (x2 : ZMod c.p) y2)
    (hne : ¬ ((x1 : ZMod c.p) = x2 ∧ (y1 : ZMod c.p) = c.weierstrass.negY x2 y2)) {lam : Nat}
    (hlam : (lam : ZMod c.p) = c.weierstrass.slope x1 x2 y1 y2) : (chord c lam x1 y1 x2).valid c = true := by
  rw [chord_valid_iff (Fact.out : c.p.Prime).pos, hlam]
  exact WeierstrassCurve.Affine.equation_add h1 h2 hne

/-- The line whose slope `num / den` is that of two points which are not opposite gives a reduced point of the curve. -/
theorem linePoint_valid [Fact c.p.Prime] (h1 : c.weierstrass.Equation (x1 : ZMod c.p) y1)
    (h2 : c.weierstrass.Equation (x2 : ZMod c.p) y2)
    (hne : ¬ ((x1 : ZMod c.p) = x2 ∧ (y1 : ZMod c.p) = c.weierstrass.negY x2 y2)) {num den : Int}
    (hden : (den : ZMod c.p) ≠ 0) (hslope : c.weierstrass.slope (x1 : ZMod c.p) x2 y1 y2 = num / den) :
    ∃ r, linePoint c num den x1 y1 x2 = .ok r ∧ r.reduced c ∧ r.valid c = true := by
  have hprime : c.p.Prime := Fact.out
  obtain ⟨lam, hok, hlam⟩ :=
    linePoint_of_gcd_eq_one hprime.pos num (gcd_eq_one_of_ne_zero hprime hden) x1 y1 x2
  refine ⟨_, hok, chord_reduced hprime.pos .., chord_valid h1 h2 hne ?_⟩
  rw [hslope, eq_div_iff hden]
  exact_mod_cast (ZMod.intCast_eq_intCast_iff _ _ c.p).2 hlam

/-- R183 for different first coordinates. -/
theorem ecAdd_valid_of_x_ne [Fact c.p.Prime] (h1 : c.weierstrass.Equation (x1 : ZMod c.p) y1)
    (h2 : c.weierstrass.Equation (x2 : ZMod c.p) y2) (hx1 : x1 < c.p) (hx2 : x2 < c.p) (hx : x1 ≠ x2) :
    ∃ r, ecAdd c (.affine x1 y1) (.affine x2 y2) = .ok r ∧ r.reduced c ∧ r.valid c = true := by
  have hcast : (x1 : ZMod c.p) ≠ x2 := fun h =>
    hx (((ZMod.natCast_eq_natCast_iff _ _ _).1 h).eq_of_lt_of_lt hx1 hx2)
  rw [ecAdd_eq_linePoint c y1 y2 hx]
  refine linePoint_valid h1 h2 (fun h => hcast h.1) ?_ ?_
  · push_cast
    exact sub_ne_zero.2 hcast.symm
  · push_cast
    rw [WeierstrassCurve.Affine.slope_of_X_ne hcast, ← neg_sub (y2 : ZMod c.p), ← neg_sub (x2 : ZMod c.p),
      neg_div_neg_eq]

/-- R183 for equal first coordinates: points that are not opposite are equal, and twice their second coordinate is not
0, so that the tangent exists. -/
theorem ecAdd_valid_of_not_opposite [Fact c.p.Prime] (h1 : c.weierstrass.Equation (x1 : ZMod c.p) y1)
    (h2 : c.weierstrass.Equation (x1 : ZMod c.p) y2) (hy : (y1 + y2) % c.p ≠ 0) :
    ∃ r, ecAdd c (.affine x1 y1) (.affine x1 y2) = .ok r ∧ r.reduced c ∧ r.valid c = true := by
  have hnegY (y : ZMod c.p) : c.weierstrass.negY x1 y = -y := by
    simp [WeierstrassCurve.Affine.negY, Curve.weierstrass]
  have hsum : (y1 : ZMod c.p) + y2 ≠ 0 := by
    rwa [← Nat.cast_add, Ne, ZMod.natCast_eq_zero_iff, Nat.dvd_iff_mod_eq_zero]
  have hne : (y1 : ZMod c.p) ≠ c.weierstrass.negY x1 y2 := by rwa [hnegY, Ne, ← add_eq_zero_iff_eq_neg]
  have hyy : (y1 : ZMod c.p) = y2 := WeierstrassCurve.Affine.Y_eq_of_Y_ne h1 h2 rfl hne
  have htwice : 2 * (y1 : ZMod c.p) ≠ 0 := by rwa [← hyy, ← two_mul] at hsum
  rw [ecAdd_of_not_opposite c x1 hy, ecDbl_eq_linePoint c x1 (by rintro rfl; simp at htwice)]
  refine linePoint_valid h1 h2 (fun h => hne h.2) (by push_cast; exact htwice) ?_
  rw [WeierstrassCurve.Affine.slope_of_Y_ne rfl hne, hnegY, sub_neg_eq_add, ← two_mul]
  simp [Curve.weierstrass]

end

/-- Over a prime field the sum of two points of the curve exists and is a reduced point of the curve. -/
theorem ecAdd_valid {c : Curve} {p q : Point} (hprime : Nat.Prime c.p) (hp : p.reduced c) (hq : q.reduced c)
    (hpv : p.valid c = true) (hqv : q.valid c = true) :
    ∃ r, ecAdd c p q = .ok r ∧ r.reduced c ∧ r.valid c = true := by
  have : Fact c.p.Prime := ⟨hprime⟩
  match p, q with
  | .infinity, q => exact ⟨q, rfl, hq, hqv⟩
  | .affine x y, .infinity => exact ⟨.affine x y, rfl, hp, hpv⟩
  | .affine x1 y1, .affine x2 y2 =>
    have h1 := (onCurve_iff_equation hprime.pos x1 y1).1 hpv
    have h2 := (onCurve_iff_equation hprime.pos x2 y2).1 hqv
    by_cases hx : x1 = x2
    · subst hx
      by_cases hy : (y1 + y2) % c.p = 0
      · exact ⟨.infinity, ecAdd_of_opposite c x1 hy, trivial, rfl⟩
      · exact ecAdd_valid_of_not_opposite h1 h2 hy
    · exact ecAdd_valid_of_x_ne h1 h2 hp.1 hq.1 hx

/-- Settles O47: both operations are one line, and over a prime field the line is that of the group law. -/
theorem pointAdditionFollowsItsFormulas : Obligations.PointAdditionFollowsItsFormulas := by
  unfold Obligations.PointAdditionFollowsItsFormulas
  refine ⟨fun c q => ⟨rfl, by cases q <;> rfl⟩, fun c => ⟨rfl, fun x => rfl⟩, ?formulas,
    fun c p q hprime _ => ecAdd_valid hprime⟩
  case formulas =>
    intro c x1 y1 x2 y2 hp _ _ _ _
    have hpos : 0 < c.p := by omega
    refine ⟨?opposite, ?equal, ?double, ?sum⟩
    case opposite =>
      rintro rfl hy
      exact ecAdd_of_opposite c x1 hy
    case equal =>
      rintro rfl hy
      exact ecAdd_of_not_opposite c x1 hy
    case double =>
      rintro rfl hy
      rw [ecDbl_eq_linePoint c x1 hy]
      exact linePoint_formula hpos _ _ x1 y1 x1
    case sum =>
      intro hx
      rw [ecAdd_eq_linePoint c y1 y2 hx]
      exact linePoint_formula hpos _ _ x1 y1 x2

end Sys2Proof.Machine
end

section
/-! PROOFS. The EC commands (44_weierstrass.md R185 to R188): the checks all three begin with, said once, and what each
command does after them. -/

namespace Sys2Proof.Machine

/-! ### The checks before the command's own work -/

/-- The range checks of the point operands, in order, before `k` (R185). -/
def checkPoints (s : State) (k : Except ErrCode Effect) : List (Fin 8) → Except ErrCode Effect
  | [] => k
  | i :: is => checkRange s (s.argN i) s.ecPointLen >>= fun _ => checkPoints s k is

/-- The form of the three EC rules: ec_params, the point operands' ranges, ec_curve, then `k` on the curve (R185). -/
def ecRule (s : State) (points : List (Fin 8)) (k : Curve → Except ErrCode Effect) : Except ErrCode Effect :=
  ecParams s >>= fun _ => checkPoints s (ecCurve s >>= k) points

/-- The last steps of EC_ADD and EC_DBL: the sum or double `x`, its V = 1 check, and one MemWrite (R186, R187). -/
def ecStore (v : Bool) (s : State) (c : Curve) (x : Except ErrCode Point) : Except ErrCode Effect :=
  x >>= fun r => validate v c r >>= fun _ => .ok { result := true, dmem := some (s.argN 4, encodePoint s.ecLen r) }

theorem ruleOf_ecAdd (v : Bool) (s : State) : ruleOf (.ecAdd v) s = ecRule s [2, 3, 4] fun c =>
    decodePoint c s.ecLen (s.pointBytes 2) >>= fun p => decodePoint c s.ecLen (s.pointBytes 3) >>= fun q =>
      validate v c p >>= fun _ => validate v c q >>= fun _ => ecStore v s c (ecAdd c p q) := rfl

theorem ruleOf_ecDbl (v : Bool) (s : State) : ruleOf (.ecDbl v) s = ecRule s [2, 4] fun c =>
    decodePoint c s.ecLen (s.pointBytes 2) >>= fun p => validate v c p >>= fun _ => ecStore v s c (ecDbl c p) := rfl

theorem ruleOf_ecCheck (s : State) : ruleOf .ecCheck s = ecRule s [2] fun c =>
    .ok { result := ecCheckResult c s.ecLen (s.pointBytes 2) } := rfl

/-- The parameter block in DMEM holds its three integers one after the other (R180). -/
theorem ecCurve_eq (s : State) : ecCurve s =
    require (3 ≤ s.curve.p) .modulus >>= fun _ =>
      require (s.curve.a < s.curve.p && s.curve.b < s.curve.p) .range >>= fun _ => .ok s.curve := by
  have hsplit : s.memRead (s.argN 0) (3 * s.ecLen) = s.memRead (s.argN 0) s.ecLen ++
      (s.memRead (s.argN 0 + s.ecLen) s.ecLen ++ s.memRead (s.argN 0 + 2 * s.ecLen) s.ecLen) := by
    rw [show 3 * s.ecLen = s.ecLen + (s.ecLen + s.ecLen) by ring, s.memRead_append, s.memRead_append, Nat.add_assoc,
      ← two_mul]
  have hp : (s.memRead (s.argN 0) (3 * s.ecLen)).take s.ecLen = s.memRead (s.argN 0) s.ecLen := by
    rw [hsplit, List.take_left' (by simp)]
  have ha : ((s.memRead (s.argN 0) (3 * s.ecLen)).drop s.ecLen).take s.ecLen =
      s.memRead (s.argN 0 + s.ecLen) s.ecLen := by
    rw [hsplit, List.drop_left' (by simp), List.take_left' (by simp)]
  have hb : (s.memRead (s.argN 0) (3 * s.ecLen)).drop (2 * s.ecLen) = s.memRead (s.argN 0 + 2 * s.ecLen) s.ecLen := by
    rw [hsplit, ← List.append_assoc, List.drop_left' (by simp [two_mul])]
  rw [ecCurve, hp, ha, hb]
  rfl

theorem bind_of_eq_ok {α β : Type} {x : Except ErrCode α} {f : α → Except ErrCode β} {a : α} (h : x = .ok a) :
    (x >>= f) = f a := by
  rw [h]
  rfl

theorem bind_of_eq_error {α β : Type} {x : Except ErrCode α} {f : α → Except ErrCode β} {c : ErrCode}
    (h : x = .error c) : (x >>= f) = .error c :=
  bind_eq_error.2 (.inl h)

theorem checkLen_of_legalLen {s : State} {l : Nat} (h : s.legalLen l) : checkLen s l = .ok () :=
  checkLen_eq_ok.2 ⟨Nat.one_le_iff_ne_zero.1 h.1, h.2⟩

theorem checkLen_of_not_legalLen {s : State} {l : Nat} (h : ¬ s.legalLen l) : checkLen s l = .error .len :=
  require_eq_error.2 ⟨by simp; omega, rfl⟩

theorem checkPoints_of_inRange {s : State} {points : List (Fin 8)} (k : Except ErrCode Effect)
    (h : ∀ i ∈ points, s.inRange (s.argN i) s.ecPointLen) : checkPoints s k points = k := by
  induction points with
  | nil => rfl
  | cons i is ih =>
    obtain ⟨hi, his⟩ := List.forall_mem_cons.1 h
    exact (checkRange_bind_of_inRange hi).trans (ih his)

theorem checkPoints_of_not_inRange {s : State} {points : List (Fin 8)} (k : Except ErrCode Effect)
    (h : ¬ ∀ i ∈ points, s.inRange (s.argN i) s.ecPointLen) : checkPoints s k points = .error .addr := by
  induction points with
  | nil => simp at h
  | cons i is ih =>
    exact checkRange_bind_eq_addr fun hi => ih fun his => h (List.forall_mem_cons.2 ⟨hi, his⟩)

section
variable {s : State} {points : List (Fin 8)} {k : Curve → Except ErrCode Effect}

theorem ecRule_of_not_legalLen (h : ¬ s.legalLen s.ecLen) : ecRule s points k = .error .len :=
  bind_of_eq_error (bind_of_eq_error (checkLen_of_not_legalLen h))

theorem ecRule_of_legalLen (h : s.legalLen s.ecLen) : ecRule s points k =
    (checkRange s (s.argN 0) (3 * s.ecLen) >>= fun _ => checkPoints s (ecCurve s >>= k) points) := by
  rw [ecRule, ecParams, bind_of_eq_ok (checkLen_of_legalLen h)]

theorem ecRule_of_not_inside (hlen : s.legalLen s.ecLen)
    (h : ¬ (s.inRange (s.argN 0) (3 * s.ecLen) ∧ ∀ i ∈ points, s.inRange (s.argN i) s.ecPointLen)) :
    ecRule s points k = .error .addr := by
  rw [ecRule_of_legalLen hlen]
  exact checkRange_bind_eq_addr fun h0 => checkPoints_of_not_inRange _ fun hpoints => h ⟨h0, hpoints⟩

theorem ecRule_of_inside (hlen : s.legalLen s.ecLen) (h0 : s.inRange (s.argN 0) (3 * s.ecLen))
    (hpoints : ∀ i ∈ points, s.inRange (s.argN i) s.ecPointLen) : ecRule s points k = (ecCurve s >>= k) := by
  rw [ecRule_of_legalLen hlen, checkRange_bind_of_inRange h0, checkPoints_of_inRange _ hpoints]

end

theorem ecCurve_of_lt_three {s : State} (h : s.curve.p < 3) : ecCurve s = .error .modulus := by
  rw [ecCurve_eq]
  exact bind_of_eq_error (require_eq_error.2 ⟨by simpa using h, rfl⟩)

theorem ecCurve_of_not_reduced {s : State} (hp : 3 ≤ s.curve.p)
    (h : ¬ (s.curve.a < s.curve.p ∧ s.curve.b < s.curve.p)) : ecCurve s = .error .range := by
  rw [ecCurve_eq, bind_of_eq_ok (require_eq_ok (u := ()).2 (decide_eq_true hp))]
  exact bind_of_eq_error (require_eq_error.2 ⟨by simpa using h, rfl⟩)

theorem ecCurve_of_reduced {s : State} (hp : 3 ≤ s.curve.p)
    (h : s.curve.a < s.curve.p ∧ s.curve.b < s.curve.p) : ecCurve s = .ok s.curve := by
  rw [ecCurve_eq, bind_of_eq_ok (require_eq_ok (u := ()).2 (decide_eq_true hp)),
    bind_of_eq_ok (require_eq_ok (u := ()).2 (by simpa using h))]

/-- The errors every EC command shares, in their order, for a command whose rule has the common form; past them the rule
is `k` on the curve in DMEM. -/
theorem ecCommand_outcomes {i : Instr} {s : State} {points : List (Fin 8)} {k : Curve → Except ErrCode Effect}
    (hrule : ruleOf i s = ecRule s points k) {inside : Prop}
    (hinside : inside ↔ s.inRange (s.argN 0) (3 * s.ecLen) ∧ ∀ i ∈ points, s.inRange (s.argN i) s.ecPointLen)
    {afterChecks : Prop} (hafter : 3 ≤ s.curve.p → ruleOf i s = k s.curve → afterChecks) :
    (¬ s.legalLen s.ecLen → Fails i s .len) ∧
    (s.legalLen s.ecLen → ¬ inside → Fails i s .addr) ∧
    (s.legalLen s.ecLen → inside → s.curve.p < 3 → Fails i s .modulus) ∧
    (s.legalLen s.ecLen → inside → 3 ≤ s.curve.p → ¬ (s.curve.a < s.curve.p ∧ s.curve.b < s.curve.p) →
      Fails i s .range) ∧
    (s.legalLen s.ecLen → inside → 3 ≤ s.curve.p → s.curve.a < s.curve.p ∧ s.curve.b < s.curve.p → afterChecks) := by
  have hcurve (hlen : s.legalLen s.ecLen) (hin : inside) : ruleOf i s = (ecCurve s >>= k) :=
    hrule.trans (ecRule_of_inside hlen (hinside.1 hin).1 (hinside.1 hin).2)
  refine ⟨fun hlen => fails_of_ruleOf (hrule.trans (ecRule_of_not_legalLen hlen)),
    fun hlen hout => fails_of_ruleOf (hrule.trans (ecRule_of_not_inside hlen (hout ∘ hinside.2))),
    fun hlen hin hp => fails_of_ruleOf ((hcurve hlen hin).trans (bind_of_eq_error (ecCurve_of_lt_three hp))),
    fun hlen hin hp hred =>
      fails_of_ruleOf ((hcurve hlen hin).trans (bind_of_eq_error (ecCurve_of_not_reduced hp hred))),
    fun hlen hin hp hred => hafter hp ((hcurve hlen hin).trans (bind_of_eq_ok (ecCurve_of_reduced hp hred)))⟩

/-! ### EC_ADD and EC_DBL -/

theorem validate_bind {α : Type} (v : Bool) (c : Curve) (p : Point) (f : Unit → Except ErrCode α) :
    (validate v c p >>= f) = if v = true ∧ p.valid c = false then .error .point else f () := by
  rw [validate]
  cases v <;> cases p.valid c <;> rfl

theorem validate_validate_bind {α : Type} (v : Bool) (c : Curve) (p q : Point) (f : Unit → Except ErrCode α) :
    (validate v c p >>= fun _ => validate v c q >>= f) =
      if v = true ∧ (p.valid c && q.valid c) = false then .error .point else f () := by
  rw [validate_bind, validate_bind]
  cases v <;> cases p.valid c <;> cases q.valid c <;> rfl

/-- NOINV, then POINT for a result off the curve, and else the encoded point at arg[4] (R186, R187). -/
theorem ecStore_outcomes {i : Instr} {v : Bool} {s : State} {x : Except ErrCode Point}
    (h : ruleOf i s = ecStore v s s.curve x) :
    (∀ e, x = .error e → Fails i s e) ∧
    (∀ r, x = .ok r →
      if v = true ∧ r.valid s.curve = false then Fails i s .point
      else Stores i s (s.argN 4) (encodePoint s.ecLen r)) := by
  refine ⟨fun e he => fails_of_ruleOf (h.trans (bind_of_eq_error he)), fun r hr => ?_⟩
  have hr' := (h.trans (bind_of_eq_ok hr)).trans (validate_bind ..)
  split
  next hoff => exact fails_of_ruleOf (hr'.trans (if_pos hoff))
  next hon => exact stores_of_ruleOf (hr'.trans (if_neg hon))

/-- Settles O48: past the common checks EC_ADD decodes P and Q, validates both and stores their sum. -/
theorem ecAddCommand : Obligations.EcAddCommand := by
  unfold Obligations.EcAddCommand
  intro s v
  refine ecCommand_outcomes (ruleOf_ecAdd v s) (by simp [State.ecPointLen]) fun _ hrule => ⟨?badP, ?badQ, ?sum⟩
  case badP => exact fun e hp => fails_of_ruleOf (hrule.trans (bind_of_eq_error hp))
  case badQ => exact fun p e hp hq => fails_of_ruleOf (hrule.trans ((bind_of_eq_ok hp).trans (bind_of_eq_error hq)))
  case sum =>
    intro p q hp hq
    have hvalidate := (hrule.trans ((bind_of_eq_ok hp).trans (bind_of_eq_ok hq))).trans (validate_validate_bind ..)
    split
    next hoff => exact fails_of_ruleOf (hvalidate.trans (if_pos hoff))
    next hon => exact ecStore_outcomes (hvalidate.trans (if_neg hon))

/-- Settles O49: past the common checks EC_DBL decodes P, validates it and stores its double. -/
theorem ecDblCommand : Obligations.EcDblCommand := by
  unfold Obligations.EcDblCommand
  intro s v
  refine ecCommand_outcomes (ruleOf_ecDbl v s) (by simp [State.ecPointLen]) fun _ hrule => ⟨?badP, ?double⟩
  case badP => exact fun e hp => fails_of_ruleOf (hrule.trans (bind_of_eq_error hp))
  case double =>
    intro p hp
    have hvalidate := (hrule.trans (bind_of_eq_ok hp)).trans (validate_bind ..)
    split
    next hoff => exact fails_of_ruleOf (hvalidate.trans (if_pos hoff))
    next hon => exact ecStore_outcomes (hvalidate.trans (if_neg hon))

/-! ### EC_CHECK -/

/-- A point string in DMEM is its tag byte, X and Y (R181). -/
theorem State.pointBytes_eq (s : State) (i : Fin 8) : s.pointBytes i = s.readByte (s.argN i) ::
    (s.memRead (s.argN i + 1) s.ecLen ++ s.memRead (s.argN i + 1 + s.ecLen) s.ecLen) := by
  rw [State.pointBytes, State.ecPointLen, s.memRead_append, two_mul, s.memRead_append]
  rfl

/-- on_curve is the curve equation modulo p (R182). -/
theorem onCurve_iff {c : Curve} (hp : 0 < c.p) (x y : Nat) :
    onCurve c x y = true ↔ ((y : Int) ^ 2 - ((x : Int) ^ 3 + c.a * x + c.b)) % c.p = 0 := by
  rw [onCurve, beq_iff_eq, ← zmod_cast hp, Int.natCast_eq_zero]

theorem ecCheckResult_iff {c : Curve} (hp : 0 < c.p) {l : Nat} {tag : Byte} {xs : Bytes} (hxs : xs.length = l)
    (ys : Bytes) : ecCheckResult c l (tag :: (xs ++ ys)) = true ↔ tag = 0x04 ∧ beNat xs < c.p ∧ beNat ys < c.p ∧
      ((beNat ys : Int) ^ 2 - ((beNat xs : Int) ^ 3 + c.a * beNat xs + c.b)) % c.p = 0 := by
  rw [ecCheckResult, pointX_append hxs, pointY_append hxs, ← onCurve_iff hp]
  simp [and_assoc]

/-- Settles O50: past the common checks EC_CHECK answers its Boolean on the point string and writes nothing. -/
theorem ecCheckCommand : Obligations.EcCheckCommand := by
  unfold Obligations.EcCheckCommand
  intro s
  refine ecCommand_outcomes (ruleOf_ecCheck s) (by simp [State.ecPointLen]) fun hp hrule =>
    ⟨ecCheckResult s.curve s.ecLen (s.pointBytes 2), exec_of_ruleOf hrule, ?_⟩
  rw [s.pointBytes_eq]
  exact ecCheckResult_iff (by omega) (s.memRead_length _ _) _

end Sys2Proof.Machine
end

section
/-! PROOFS. The Montgomery ladder (45_montgomery.md R204, 46_modexp.md R221): square and multiply gives the power, the
iterations as a sequence over Z_p, and the products x2 * z2 and x3 * z3, which stay 0 for u = 0. -/

namespace Sys2Proof.Machine

/-! ### The modular power -/

theorem modPow_succ (m bits b e : Nat) : modPow m (bits + 1) b e =
    if e % 2 = 1 then b * modPow m bits (b * b % m) (e / 2) % m else modPow m bits (b * b % m) (e / 2) := rfl

/-- Square and multiply gives b^e for an exponent that fits the bits it walks (R221). -/
theorem modPow_modEq (m b : Nat) {bits e : Nat} (he : e < 2 ^ bits) : modPow m bits b e ≡ b ^ e [MOD m] := by
  induction bits generalizing b e with
  | zero =>
    obtain rfl : e = 0 := by simpa using he
    exact Nat.mod_modEq 1 m
  | succ bits ih =>
    have hhalf : modPow m bits (b * b % m) (e / 2) ≡ b ^ (2 * (e / 2)) [MOD m] := by
      rw [pow_mul, pow_two]
      exact (ih _ (by omega)).trans ((Nat.mod_modEq _ m).pow _)
    rw [modPow_succ]
    split
    next hodd =>
      have hpow : b ^ e = b * b ^ (2 * (e / 2)) := by rw [← pow_succ', show 2 * (e / 2) + 1 = e by omega]
      rw [hpow]
      exact (Nat.mod_modEq _ m).trans (hhalf.mul_left b)
    next heven => rwa [show 2 * (e / 2) = e by omega] at hhalf

/-- A power of 0 is 0 already at an odd exponent's lowest bit, whatever bits are left unread. -/
theorem modPow_zero_of_odd (m : Nat) {bits e : Nat} (hbits : 1 ≤ bits) (he : e % 2 = 1) : modPow m bits 0 e = 0 := by
  obtain ⟨n, rfl⟩ := Nat.exists_eq_add_of_le' hbits
  simp [modPow_succ, he]

/-! ### The iterations -/

/-- The variables of R204 before the first iteration. -/
def Ladder.start (u : Nat) : Ladder := { x2 := 1, z2 := 0, x3 := u, z3 := 1, swap := false }

/-- The variables of R204 after `n` iterations. -/
def ladderAt (k u p a24 bits : Nat) : Nat → Ladder
  | 0 => Ladder.start u
  | n + 1 => (ladderAt k u p a24 bits n).step p a24 u k (bits - 1 - n)

/-- The variables of R204 after the last swap. -/
def ladderEnd (k u p a24 bits : Nat) : Ladder :=
  (ladderAt k u p a24 bits bits).cswap (ladderAt k u p a24 bits bits).swap

theorem foldl_step_eq_ladderAt (k u p a24 bits n : Nat) :
    (List.range n).foldl (fun v i => Ladder.step p a24 u k v (bits - 1 - i)) (Ladder.start u) =
      ladderAt k u p a24 bits n := by
  induction n with
  | zero => rfl
  | succ n ih => rw [List.range_succ, List.foldl_append, ih]; rfl

/-- The ladder reads the bits of the scalar from the highest: it is `bits` iterations, the last swap and the power. -/
theorem ladder_eq (k u p a24 bits : Nat) : ladder k u p a24 bits =
    (ladderEnd k u p a24 bits).x2 * modPow p bits (ladderEnd k u p a24 bits).z2 (p - 2) % p := by
  have hfold : (List.range bits).reverse.foldl (Ladder.step p a24 u k) (Ladder.start u) =
      ladderAt k u p a24 bits bits := by
    rw [List.range_eq_range', List.reverse_range', List.foldl_map, zero_add]
    exact foldl_step_eq_ladderAt k u p a24 bits bits
  rw [ladderEnd, ← hfold]
  rfl

/-- After an iteration the swap bit is the bit of the scalar it read. -/
theorem ladderAt_swap (k u p a24 : Nat) {bits n : Nat} (hn : n ≤ bits) :
    (ladderAt k u p a24 bits n).swap = if n = 0 then false else k.testBit (bits - n) := by
  cases n with
  | zero => rfl
  | succ n => rw [if_neg n.succ_ne_zero, Nat.sub_add_eq, Nat.sub_right_comm]; rfl

/-! ### One iteration over Z_p -/

@[simp] theorem Ladder.cswap_false (v : Ladder) : v.cswap false = v := rfl

@[simp] theorem Ladder.cswap_true (v : Ladder) :
    v.cswap true = { v with x2 := v.x3, x3 := v.x2, z2 := v.z3, z3 := v.z2 } := rfl

section
variable {p : Nat} (hp : 0 < p) (a24 x1 : Nat) (v : Ladder)
include hp

theorem Ladder.natCast_addDouble_x2 : ((v.addDouble p a24 x1).x2 : ZMod p) =
    ((v.x2 : ZMod p) + v.z2) ^ 2 * (v.x2 - v.z2) ^ 2 := by
  simp [Ladder.addDouble, natCast_zmod hp, pow_two]

theorem Ladder.natCast_addDouble_z2 : ((v.addDouble p a24 x1).z2 : ZMod p) =
    (((v.x2 : ZMod p) + v.z2) ^ 2 - (v.x2 - v.z2) ^ 2) *
      ((v.x2 + v.z2) ^ 2 + a24 * ((v.x2 + v.z2) ^ 2 - (v.x2 - v.z2) ^ 2)) := by
  simp [Ladder.addDouble, natCast_zmod hp, pow_two]

theorem Ladder.natCast_addDouble_x3 : ((v.addDouble p a24 x1).x3 : ZMod p) =
    (((v.x3 : ZMod p) - v.z3) * (v.x2 + v.z2) + (v.x3 + v.z3) * (v.x2 - v.z2)) ^ 2 := by
  simp [Ladder.addDouble, natCast_zmod hp]

theorem Ladder.natCast_addDouble_z3 : ((v.addDouble p a24 x1).z3 : ZMod p) =
    x1 * (((v.x3 : ZMod p) - v.z3) * (v.x2 + v.z2) - (v.x3 + v.z3) * (v.x2 - v.z2)) ^ 2 := by
  simp [Ladder.addDouble, natCast_zmod hp]

theorem Ladder.addDouble_z2_lt : (v.addDouble p a24 x1).z2 < p := by
  simp only [Ladder.addDouble, zmod_lt hp]

end

theorem Ladder.step_eq (p a24 x1 k : Nat) (v : Ladder) (t : Nat) : v.step p a24 x1 k t =
    { (v.cswap (v.swap ^^ k.testBit t)).addDouble p a24 x1 with swap := k.testBit t } := rfl

/-- The value of the ladder modulo p: the power's exponent p - 2 fits the bits of p (R204). -/
theorem natCast_ladder (k u a24 : Nat) {p bits : Nat} (hp : 3 ≤ p) (hbits : p ≤ 2 ^ bits) :
    (ladder k u p a24 bits : ZMod p) =
      (ladderEnd k u p a24 bits).x2 * ((ladderEnd k u p a24 bits).z2 : ZMod p) ^ (p - 2) := by
  have hpow := (ZMod.natCast_eq_natCast_iff _ _ p).2
    (modPow_modEq p (ladderEnd k u p a24 bits).z2 (show p - 2 < 2 ^ bits by omega))
  rw [ladder_eq, ZMod.natCast_mod, Nat.cast_mul, hpow, Nat.cast_pow]

theorem ladder_lt (k u a24 bits : Nat) {p : Nat} (hp : 0 < p) : ladder k u p a24 bits < p := by
  rw [ladder_eq]
  exact Nat.mod_lt _ hp

/-! ### The coordinate 0 -/

/-- One of the two coordinates of each point is 0. -/
def Ladder.degenerate (v : Ladder) : Prop := v.x2 * v.z2 = 0 ∧ v.x3 * v.z3 = 0

theorem Ladder.degenerate.cswap {v : Ladder} (h : v.degenerate) (c : Bool) : (v.cswap c).degenerate := by
  cases c
  · exact h
  · exact h.symm

/-- E of R204 is 4 * x2 * z2, a factor of the next z2; and u is one of the next z3. -/
theorem Ladder.degenerate.addDouble {v : Ladder} (h : v.degenerate) {p : Nat} (hp : 0 < p) (a24 : Nat) :
    (v.addDouble p a24 0).degenerate := by
  have hz2 : (v.addDouble p a24 0).z2 = 0 := by
    have hE : ((v.x2 : ZMod p) + v.z2) ^ 2 - (v.x2 - v.z2) ^ 2 = 4 * (v.x2 * v.z2 : Nat) := by push_cast; ring
    have hcast : ((v.addDouble p a24 0).z2 : ZMod p) = 0 := by
      rw [Ladder.natCast_addDouble_z2 hp, hE, h.1, Nat.cast_zero, mul_zero, zero_mul]
    exact Nat.eq_zero_of_dvd_of_lt ((ZMod.natCast_eq_zero_iff _ _).1 hcast) (Ladder.addDouble_z2_lt hp a24 0 v)
  have hz3 : (v.addDouble p a24 0).z3 = 0 := by simp [Ladder.addDouble, zmod]
  exact ⟨by rw [hz2, mul_zero], by rw [hz3, mul_zero]⟩

theorem ladderAt_zero_degenerate {p : Nat} (hp : 0 < p) (k a24 bits n : Nat) :
    (ladderAt k 0 p a24 bits n).degenerate := by
  induction n with
  | zero => exact ⟨rfl, rfl⟩
  | succ n ih => exact (ih.cswap _).addDouble hp a24

/-- R205, R206: for u = 0 the last x2 or z2 is 0, and with it the product x2 * z2^(p - 2). -/
theorem ladder_zero {p bits : Nat} (hp : 3 ≤ p) (hodd : p % 2 = 1) (hbits : 1 ≤ bits) (k a24 : Nat) :
    ladder k 0 p a24 bits = 0 := by
  have hend : (ladderEnd k 0 p a24 bits).degenerate := (ladderAt_zero_degenerate (by omega) k a24 bits bits).cswap _
  rw [ladder_eq]
  obtain hx | hz := Nat.mul_eq_zero.1 hend.1
  · rw [hx, zero_mul, Nat.zero_mod]
  · rw [hz, modPow_zero_of_odd p hbits (by omega), mul_zero, Nat.zero_mod]

/-- Settles O53: the casts of the model's variables run through R204's iterations, and u = 0 keeps a coordinate 0. -/
theorem ladderFollowsItsSteps : Obligations.LadderFollowsItsSteps := by
  unfold Obligations.LadderFollowsItsSteps
  refine ⟨fun k p a24 bits hp hodd hbits => ladder_zero hp hodd hbits k a24, fun k u p a24 bits hp hbits => ?_⟩
  have hpos : 0 < p := by omega
  refine ⟨ladder_lt k u a24 bits hpos,
    fun n => (ladderAt k u p a24 bits n).x2, fun n => (ladderAt k u p a24 bits n).z2,
    fun n => (ladderAt k u p a24 bits n).x3, fun n => (ladderAt k u p a24 bits n).z3,
    Nat.cast_one, Nat.cast_zero, rfl, Nat.cast_one, ?iteration, ?value⟩
  case iteration =>
    intro n hn
    rw [← ladderAt_swap k u p a24 hn.le]
    simp only [ladderAt, Ladder.step_eq, Ladder.natCast_addDouble_x2 hpos, Ladder.natCast_addDouble_x3 hpos,
      Ladder.natCast_addDouble_z2 hpos, Ladder.natCast_addDouble_z3 hpos]
    cases (ladderAt k u p a24 bits n).swap ^^ k.testBit (bits - 1 - n) <;> simp
  case value =>
    rw [natCast_ladder k u a24 hp hbits, ladderEnd, ladderAt_swap k u p a24 le_rfl]
    have hne : bits ≠ 0 := by rintro rfl; omega
    simp only [if_neg hne, Nat.sub_self]
    cases k.testBit 0 <;> simp

end Sys2Proof.Machine
end

section
/-! PROOFS. The commands X25519 and X448 (45_montgomery.md R200 to R206): the fixed scalar and u as numbers, by the
first and the last byte of their strings, and how a command of the common form of the two ends. -/

namespace Sys2Proof.Machine

/-! ### Fixing the ends of a string -/

theorem leNat_append_singleton (s : Bytes) (b : Byte) : leNat (s ++ [b]) = leNat s + 256 ^ s.length * b.toNat := by
  induction s with
  | nil => simp [leNat, beNat]
  | cons c s ih => rw [List.cons_append, leNat_cons, leNat_cons, ih, List.length_cons, pow_succ]; ring

theorem mapEnds_cons_append (f g : Byte → Byte) (b c : Byte) (s : Bytes) :
    mapEnds f g (b :: (s ++ [c])) = f b :: (s ++ [g c]) := by
  simp [mapEnds, List.modify_eq_take_drop]

/-- The number of a string of `n + 2` bytes by its first byte, its middle and its last byte, before and after the ends
are changed. -/
theorem leNat_mapEnds {s : Bytes} {n : Nat} (h : s.length = n + 2) : ∃ first last : Byte, ∃ m < 256 ^ n,
    leNat s = first.toNat + 256 * (m + 256 ^ n * last.toNat) ∧
      ∀ f g, leNat (mapEnds f g s) = (f first).toNat + 256 * (m + 256 ^ n * (g last).toNat) := by
  obtain ⟨first, rest, rfl⟩ := List.exists_cons_of_length_eq_add_one h
  obtain ⟨middle, last, rfl⟩ := List.eq_nil_or_concat' rest |>.resolve_left (by rintro rfl; simp at h)
  obtain rfl : middle.length = n := by simpa using h
  refine ⟨first, last, leNat middle, leNat_lt middle, ?_, fun f g => ?_⟩
  · rw [leNat_cons, leNat_append_singleton]
  · rw [mapEnds_cons_append, leNat_cons, leNat_append_singleton]

theorem toNat_clearLow3 : ∀ b : Byte, (b &&& 0xF8).toNat = 8 * (b.toNat / 8) := by decide

theorem toNat_clearLow2 : ∀ b : Byte, (b &&& 0xFC).toNat = 4 * (b.toNat / 4) := by decide

theorem toNat_clearBit7 : ∀ b : Byte, (b &&& 0x7F).toNat = b.toNat % 128 := by decide

theorem toNat_clearBit7_setBit6 : ∀ b : Byte, ((b &&& 0x7F) ||| 0x40).toNat = 64 + b.toNat % 64 := by decide

theorem toNat_setBit7 : ∀ b : Byte, (b ||| 0x80).toNat = 128 + b.toNat % 128 := by decide

/-- R201 for X25519: bits 0 to 2 and 255 cleared, bit 254 set. -/
theorem leNat_fixScalar25519 {kb : Bytes} (h : kb.length = 32) :
    leNat (fixScalar25519 kb) = 2 ^ 254 + 8 * (leNat kb % 2 ^ 254 / 8) := by
  obtain ⟨first, last, m, hm, hs, hends⟩ := leNat_mapEnds (n := 30) h
  rw [fixScalar25519, hends, hs, toNat_clearLow3, toNat_clearBit7_setBit6]
  have hfirst := first.isLt
  omega

/-- R201 for X448: bits 0 and 1 cleared, bit 447 set. -/
theorem leNat_fixScalar448 {kb : Bytes} (h : kb.length = 56) :
    leNat (fixScalar448 kb) = 2 ^ 447 + 4 * (leNat kb % 2 ^ 447 / 4) := by
  obtain ⟨first, last, m, hm, hs, hends⟩ := leNat_mapEnds (n := 54) h
  rw [fixScalar448, hends, hs, toNat_clearLow2, toNat_setBit7]
  have hfirst := first.isLt
  omega

/-- R202 for X25519: bit 255 cleared. -/
theorem leNat_fixU25519 {ub : Bytes} (h : ub.length = 32) : leNat (fixU25519 ub) = leNat ub % 2 ^ 255 := by
  obtain ⟨first, last, m, hm, hs, hends⟩ := leNat_mapEnds (n := 30) h
  rw [fixU25519, hends, hs, toNat_clearBit7, id]
  have hfirst := first.isLt
  omega

/-- R205 over numbers. -/
theorem x25519_eq {kb ub : Bytes} (hk : kb.length = 32) (hu : ub.length = 32) : x25519 kb ub =
    leBytes 32 (ladder (2 ^ 254 + 8 * (leNat kb % 2 ^ 254 / 8)) (leNat ub % 2 ^ 255 % (2 ^ 255 - 19)) (2 ^ 255 - 19)
      121665 255) := by
  unfold x25519 p25519
  rw [leNat_fixScalar25519 hk, leNat_fixU25519 hu]

/-- R206 over numbers. -/
theorem x448_eq {kb : Bytes} (hk : kb.length = 56) (ub : Bytes) : x448 kb ub =
    leBytes 56 (ladder (2 ^ 447 + 4 * (leNat kb % 2 ^ 447 / 4)) (leNat ub % (2 ^ 448 - 2 ^ 224 - 1))
      (2 ^ 448 - 2 ^ 224 - 1) 39081 448) := by
  unfold x448 p448
  rw [leNat_fixScalar448 hk]

/-! ### The two commands -/

theorem ruleMx_of_not_inRange {n : Nat} (f : Bytes → Bytes → Bytes) {s : State}
    (h : ¬ (s.inRange (s.argN 0) n ∧ s.inRange (s.argN 1) n ∧ s.inRange (s.argN 2) n)) :
    ruleMx n f s = .error .addr :=
  checkRange_bind_eq_addr fun h0 => checkRange_bind_eq_addr fun h1 =>
    checkRange_bind_of_not_inRange fun h2 => h ⟨h0, h1, h2⟩

/-- R205, R206 for a command whose rule is the common form with the function `f`. -/
theorem mxCommand {i : Instr} {n : Nat} {f : Bytes → Bytes → Bytes} (hrule : ruleOf i = ruleMx n f) (s : State) :
    (¬ (s.inRange (s.argN 0) n ∧ s.inRange (s.argN 1) n ∧ s.inRange (s.argN 2) n) → Fails i s .addr) ∧
    (s.inRange (s.argN 0) n → s.inRange (s.argN 1) n → s.inRange (s.argN 2) n →
      Stores i s (s.argN 2) (f (s.memRead (s.argN 0) n) (s.memRead (s.argN 1) n))) := by
  have hrule' := congrFun hrule s
  exact ⟨fun h => fails_of_ruleOf (hrule'.trans (ruleMx_of_not_inRange f h)),
    fun h0 h1 h2 => stores_of_ruleOf (hrule'.trans (ruleMx_eq_ok.2 ⟨h0, h1, h2, rfl⟩))⟩

/-- Settles O51: the rule is the common form, and the ends that R201 and R202 change are those of the numbers. -/
theorem x25519Command : Obligations.X25519Command := by
  unfold Obligations.X25519Command
  intro s
  have hmx := mxCommand (i := .x25519) rfl s
  rwa [x25519_eq (s.memRead_length _ _) (s.memRead_length _ _)] at hmx

/-- Settles O52: the rule is the common form, and the ends that R201 changes are those of the scalar. -/
theorem x448Command : Obligations.X448Command := by
  unfold Obligations.X448Command
  intro s
  have hmx := mxCommand (i := .x448) rfl s
  rwa [x448_eq (s.memRead_length _ _)] at hmx

end Sys2Proof.Machine
end

section
/-! PROOFS. The command MODEXP (46_modexp.md R220 to R222): its checks in their order, and the reduced power that square
and multiply leaves, which fits the L bytes of the modulus. -/

namespace Sys2Proof.Machine

/-! ### The reduced power -/

theorem modPow_lt {m : Nat} (hm : 0 < m) (bits b e : Nat) : modPow m bits b e < m := by
  induction bits generalizing b e with
  | zero => exact Nat.mod_lt _ hm
  | succ bits ih =>
    rw [modPow_succ]
    split
    next hodd => exact Nat.mod_lt _ hm
    next heven => exact ih _ _

/-- Square and multiply gives the representative of b^e in [0, m) that R221 names, with b^0 = 1. -/
theorem modPow_eq_pow_mod {m : Nat} (hm : 0 < m) (b : Nat) {bits e : Nat} (he : e < 2 ^ bits) :
    modPow m bits b e = b ^ e % m :=
  (Nat.mod_eq_of_modEq (modPow_modEq m b he).symm (modPow_lt hm bits b e)).symm

/-- The power for an exponent and a modulus that are byte strings of one length: the exponent fits the bits the command
walks, and the bytes of the power lose nothing of it. -/
theorem beNat_beBytes_modPow (b : Nat) {es ms : Bytes} {l : Nat} (hes : es.length = l) (hms : ms.length = l)
    (hm : beNat ms ≠ 0) :
    beNat (beBytes l (modPow (beNat ms) (8 * l) b (beNat es))) = b ^ beNat es % beNat ms := by
  have hpos : 0 < beNat ms := Nat.pos_of_ne_zero hm
  have hexp : beNat es < 2 ^ (8 * l) := by rw [pow_mul, ← hes]; exact beNat_lt es
  have hfits : b ^ beNat es % beNat ms < 256 ^ l := (Nat.mod_lt _ hpos).trans (hms ▸ beNat_lt ms)
  rw [modPow_eq_pow_mod hpos b hexp, beNat_beBytes, Nat.mod_eq_of_lt hfits]

/-! ### The checks of the rule -/

/-- The base, the exponent and the modulus of MODEXP are strings of L bytes inside DMEM, and so is the place of the
result (R222). -/
def State.modexpInside (s : State) : Prop :=
  s.inRange (s.argN 0) (s.argN 4) ∧ s.inRange (s.argN 1) (s.argN 4) ∧ s.inRange (s.argN 2) (s.argN 4) ∧
    s.inRange (s.argN 3) (s.argN 4)

/-- The bytes that MODEXP stores for a modulus other than 0 (R222). -/
def State.modexpBytes (s : State) : Bytes :=
  beBytes (s.argN 4) (modPow (beNat (s.memRead (s.argN 2) (s.argN 4))) (8 * s.argN 4)
    (beNat (s.memRead (s.argN 0) (s.argN 4))) (beNat (s.memRead (s.argN 1) (s.argN 4))))

section
variable {s : State}

theorem ruleModexp_of_not_legalLen (h : ¬ s.legalLen (s.argN 4)) : ruleModexp s = .error .len :=
  bind_of_eq_error (checkLen_of_not_legalLen h)

theorem ruleModexp_of_not_inside (hlen : s.legalLen (s.argN 4)) (h : ¬ s.modexpInside) :
    ruleModexp s = .error .addr :=
  (bind_of_eq_ok (checkLen_of_legalLen hlen)).trans <|
    checkRange_bind_eq_addr fun h0 => checkRange_bind_eq_addr fun h1 => checkRange_bind_eq_addr fun h2 =>
      checkRange_bind_of_not_inRange fun h3 => h ⟨h0, h1, h2, h3⟩

/-- Past the length and the ranges MODEXP asks for a modulus other than 0 and stores the power. -/
theorem ruleModexp_of_inside (hlen : s.legalLen (s.argN 4)) (h : s.modexpInside) :
    ruleModexp s = (require (beNat (s.memRead (s.argN 2) (s.argN 4)) != 0) .modulus >>= fun _ =>
      .ok { result := true, dmem := some (s.argN 3, s.modexpBytes) }) := by
  obtain ⟨h0, h1, h2, h3⟩ := h
  rw [ruleModexp, bind_of_eq_ok (checkLen_of_legalLen hlen), checkRange_bind_of_inRange h0,
    checkRange_bind_of_inRange h1, checkRange_bind_of_inRange h2, checkRange_bind_of_inRange h3]
  rfl

theorem ruleModexp_of_modulus_zero (hlen : s.legalLen (s.argN 4)) (h : s.modexpInside)
    (hm : beNat (s.memRead (s.argN 2) (s.argN 4)) = 0) : ruleModexp s = .error .modulus := by
  rw [ruleModexp_of_inside hlen h, hm]
  rfl

theorem ruleModexp_of_modulus_ne_zero (hlen : s.legalLen (s.argN 4)) (h : s.modexpInside)
    (hm : beNat (s.memRead (s.argN 2) (s.argN 4)) ≠ 0) :
    ruleModexp s = .ok { result := true, dmem := some (s.argN 3, s.modexpBytes) } := by
  rw [ruleModexp_of_inside hlen h, bind_of_eq_ok (require_eq_ok (u := ()).2 (bne_iff_ne.2 hm))]

end

/-- Settles O54: the checks fail the rule in their order, and past them the stored bytes are those of the reduced
power. -/
theorem modexpGivesPower : Obligations.ModexpGivesPower := by
  unfold Obligations.ModexpGivesPower
  intro s
  refine ⟨fun hlen => fails_of_ruleOf (ruleModexp_of_not_legalLen hlen),
    fun hlen hout => fails_of_ruleOf (ruleModexp_of_not_inside hlen hout),
    fun hlen hin hm => fails_of_ruleOf (ruleModexp_of_modulus_zero hlen hin hm),
    fun hlen hin hm => ⟨s.modexpBytes, beBytes_length _ _, ?power,
      stores_of_ruleOf (ruleModexp_of_modulus_ne_zero hlen hin hm)⟩⟩
  case power => exact beNat_beBytes_modPow _ (s.memRead_length _ _) (s.memRead_length _ _) hm

end Sys2Proof.Machine
end

section
/-! PROOFS. The header decoder of the BER unit (47_ber.md R231, R238): which tag octets and length octets it accepts,
what each of its failures is, and that bytes behind a header do not change it. -/

namespace Sys2Proof.Machine

/-! ### Base-128 digits -/

/-- The number so far continued by base-128 digits, as the repeat loop of R231 does. -/
def base128From (num : Nat) (ds : List (BitVec 7)) : Nat := ds.foldl (fun n d => n * 128 + d.toNat) num

theorem base128_eq_base128From (ds : List (BitVec 7)) : base128 ds = base128From 0 ds := rfl

theorem le_base128From (num : Nat) (ds : List (BitVec 7)) : num ≤ base128From num ds := by
  induction ds generalizing num with
  | nil => exact le_rfl
  | cons d ds ih =>
    calc num ≤ num * 128 + d.toNat := by omega
      _ ≤ base128From num (d :: ds) := ih _

/-- An octet is its bit 7 and the digit below it. -/
theorem octet_eq : ∀ c : Byte, c = 1#1 ++ c.extractLsb' 0 7 ∨ c = 0#1 ++ c.extractLsb' 0 7 := by decide

/-- A byte string is digits that do not end, or digits with a last one and what follows. -/
theorem digits_cases (bs : Bytes) :
    (∃ ds, bs = moreDigits ds) ∨ ∃ ds, ∃ d : BitVec 7, ∃ rest, bs = moreDigits ds ++ (0#1 ++ d) :: rest := by
  induction bs with
  | nil => exact .inl ⟨[], rfl⟩
  | cons c bs ih =>
    obtain hc | hc := octet_eq c
    · obtain ⟨ds, rfl⟩ | ⟨ds, d, rest, rfl⟩ := ih
      · exact .inl ⟨c.extractLsb' 0 7 :: ds, congrArg (· :: moreDigits ds) hc⟩
      · exact .inr ⟨c.extractLsb' 0 7 :: ds, d, rest, congrArg (· :: (moreDigits ds ++ _)) hc⟩
    · exact .inr ⟨[], c.extractLsb' 0 7, bs, congrArg (· :: bs) hc⟩

/-! ### Tag octets -/

theorem more_octet :
    ∀ d : BitVec 7, (1#1 ++ d : Byte).msb = true ∧ (1#1 ++ d : Byte).extractLsb' 0 7 = d := by decide

theorem last_octet :
    ∀ d : BitVec 7, (0#1 ++ d : Byte).msb = false ∧ (0#1 ++ d : Byte).extractLsb' 0 7 = d := by decide

/-- One round of the loop on a digit that another follows (R231). -/
theorem berHighTag_more (d : BitVec 7) (rest : Bytes) (num : Nat) : berHighTag ((1#1 ++ d) :: rest) num =
    if num * 128 + d.toNat < 2 ^ 32 then berHighTag rest (num * 128 + d.toNat) else none := by
  obtain ⟨hmsb, hdigit⟩ := more_octet d
  simp only [berHighTag, hmsb, hdigit, if_true]
  by_cases h : num * 128 + d.toNat < 2 ^ 32
  · rw [if_pos h, if_neg (by omega)]
  · rw [if_neg h, if_pos (by omega)]

/-- The last round of the loop (R231). -/
theorem berHighTag_last (d : BitVec 7) (rest : Bytes) (num : Nat) : berHighTag ((0#1 ++ d) :: rest) num =
    if num * 128 + d.toNat < 2 ^ 32 then some (num * 128 + d.toNat, rest) else none := by
  obtain ⟨hmsb, hdigit⟩ := last_octet d
  simp only [berHighTag, hmsb, hdigit]
  by_cases h : num * 128 + d.toNat < 2 ^ 32
  · rw [if_pos h, if_neg (by omega)]
    rfl
  · rw [if_neg h, if_pos (by omega)]

/-- The loop gives the number of its digits, unless that number, or one on the way to it, is too large. -/
theorem berHighTag_digits (ds : List (BitVec 7)) (d : BitVec 7) (rest : Bytes) (num : Nat) :
    berHighTag (moreDigits ds ++ (0#1 ++ d) :: rest) num =
      if base128From num (ds ++ [d]) < 2 ^ 32 then some (base128From num (ds ++ [d]), rest) else none := by
  induction ds generalizing num with
  | nil => exact berHighTag_last d rest num
  | cons d' ds ih =>
    have hle : num * 128 + d'.toNat ≤ base128From num (d' :: ds ++ [d]) := le_base128From _ (ds ++ [d])
    rw [moreDigits, List.map_cons, List.cons_append, berHighTag_more]
    split
    · exact ih _
    · rw [if_neg (by omega)]

theorem berHighTag_moreDigits (ds : List (BitVec 7)) (num : Nat) : berHighTag (moreDigits ds) num = none := by
  induction ds generalizing num with
  | nil => rfl
  | cons d ds ih =>
    rw [moreDigits, List.map_cons, berHighTag_more]
    split
    · exact ih _
    · rfl

theorem lowBits_toNat (b0 : Byte) : (b0.extractLsb' 0 5).toNat = b0.toNat % 32 := by simp

theorem lowBits_eq_iff (b0 : Byte) : b0.extractLsb' 0 5 = 0x1F ↔ b0.toNat % 32 = 0x1F := by
  rw [← BitVec.toNat_inj, lowBits_toNat]
  rfl

theorem berTagNumber_of_low {b0 : Byte} (h : b0.toNat % 32 ≠ 0x1F) (rest : Bytes) :
    berTagNumber b0 rest = some (b0.toNat % 32, rest) := by
  rw [berTagNumber, if_neg (mt (lowBits_eq_iff b0).1 h), lowBits_toNat]

theorem berTagNumber_of_high {b0 : Byte} (h : b0.toNat % 32 = 0x1F) (rest : Bytes) :
    berTagNumber b0 rest = berHighTag rest 0 :=
  if_pos ((lowBits_eq_iff b0).2 h)

/-- Behind the identifier octet of any tag octets the decoder reads their number, if it is below 2^32 (R231). -/
theorem berTagNumber_of_tagWritten {tag : Bytes} {b0 : Byte} {num : Nat} (h : TagWritten tag b0 num) :
    ∃ digits, tag = b0 :: digits ∧
      ∀ rest, berTagNumber b0 (digits ++ rest) = if num < 2 ^ 32 then some (num, rest) else none := by
  obtain ⟨hlow, rfl, rfl⟩ | ⟨hhigh, ds, d, rfl, rfl⟩ := h
  · refine ⟨[], rfl, fun rest => ?_⟩
    rw [List.nil_append, berTagNumber_of_low hlow, if_pos (by omega)]
  · refine ⟨_, rfl, fun rest => ?_⟩
    rw [berTagNumber_of_high hhigh, List.append_assoc, base128_eq_base128From]
    exact berHighTag_digits ds d rest 0

/-- What the decoder takes for a tag number is written by tag octets (R231). -/
theorem tagWritten_of_berTagNumber {b0 : Byte} {bs rest : Bytes} {num : Nat}
    (h : berTagNumber b0 bs = some (num, rest)) :
    ∃ digits, bs = digits ++ rest ∧ TagWritten (b0 :: digits) b0 num ∧ num < 2 ^ 32 := by
  by_cases hhigh : b0.toNat % 32 = 0x1F
  · rw [berTagNumber_of_high hhigh] at h
    obtain ⟨ds, rfl⟩ | ⟨ds, d, rest', rfl⟩ := digits_cases bs
    · simp [berHighTag_moreDigits] at h
    · rw [berHighTag_digits, Option.ite_none_right_eq_some, Option.some.injEq, Prod.mk.injEq] at h
      obtain ⟨hlt, rfl, rfl⟩ := h
      exact ⟨moreDigits ds ++ [0#1 ++ d], by simp, .inr ⟨hhigh, ds, d, rfl, rfl⟩, hlt⟩
  · rw [berTagNumber_of_low hhigh, Option.some.injEq, Prod.mk.injEq] at h
    obtain ⟨rfl, rfl⟩ := h
    exact ⟨[], rfl, .inl ⟨hhigh, rfl, rfl⟩, by omega⟩

/-! ### Length octets -/

/-- The four kinds of a first length octet (R231). -/
theorem lengthOctet_cases (l0 : Byte) :
    (∃ n < 0x80, l0 = BitVec.ofNat 8 n) ∨ l0 = 0x80 ∨ (∃ k, 1 ≤ k ∧ k ≤ 4 ∧ l0 = BitVec.ofNat 8 (0x80 + k)) ∨
      0x84 < l0.toNat := by
  have heq : l0 = BitVec.ofNat 8 l0.toNat := by simp
  by_cases hshort : l0.toNat < 0x80
  · exact .inl ⟨l0.toNat, hshort, heq⟩
  by_cases hindef : l0.toNat = 0x80
  · exact .inr (.inl (BitVec.eq_of_toNat_eq hindef))
  by_cases hlong : l0.toNat ≤ 0x84
  · exact .inr (.inr (.inl ⟨l0.toNat - 0x80, by omega, by omega, by rwa [Nat.add_sub_cancel' (by omega)]⟩))
  · exact .inr (.inr (.inr (by omega)))

theorem berLength_short {n : Nat} (h : n < 0x80) (rest : Bytes) :
    berLength (BitVec.ofNat 8 n :: rest) = some (n, false, rest) := by
  have hn : (BitVec.ofNat 8 n).toNat = n := Nat.mod_eq_of_lt (by omega)
  rw [berLength, if_pos (BitVec.lt_def.2 (by rwa [hn])), hn]

theorem berLength_long {k : Nat} (hpos : 1 ≤ k) (hle : k ≤ 4) (rest : Bytes) :
    berLength (BitVec.ofNat 8 (0x80 + k) :: rest) =
      if rest.length < k then none else some (beNat (rest.take k), false, rest.drop k) := by
  interval_cases k <;> rfl

/-- More than four length bytes, or the octet FF (R231). -/
theorem berLength_of_gt {l0 : Byte} (h : 0x84 < l0.toNat) (rest : Bytes) : berLength (l0 :: rest) = none := by
  have hshort : ¬ l0 < 0x80 := by simp [BitVec.lt_def]; omega
  have hindef : l0 ≠ 0x80 := by rintro rfl; simp at h
  have hmany : 4 < (l0.extractLsb' 0 7).toNat := by simp; omega
  rw [berLength, if_neg hshort, if_neg hindef, if_pos hmany, ite_self]

/-- Length octets of every form are read as the length they write (R231). -/
theorem berLength_of_lengthWritten {octets : Bytes} {len : Nat} {indef : Bool} (h : LengthWritten octets len indef)
    (rest : Bytes) : berLength (octets ++ rest) = some (len, indef, rest) := by
  obtain ⟨hlt, rfl, rfl⟩ | ⟨rfl, rfl, rfl⟩ | ⟨rfl, bs, hpos, hle, rfl, rfl⟩ := h
  · exact berLength_short hlt rest
  · rfl
  · rw [List.cons_append, berLength_long hpos hle, if_neg (by simp), List.take_left, List.drop_left]

/-- What the decoder takes for a length is written by length octets (R231). -/
theorem lengthWritten_of_berLength {bs rest : Bytes} {len : Nat} {indef : Bool}
    (h : berLength bs = some (len, indef, rest)) : ∃ octets, bs = octets ++ rest ∧ LengthWritten octets len indef := by
  cases bs with
  | nil => cases h
  | cons l0 bs =>
    obtain ⟨n, hn, rfl⟩ | rfl | ⟨k, hpos, hle, rfl⟩ | hgt := lengthOctet_cases l0
    · rw [berLength_short hn, Option.some.injEq, Prod.mk.injEq, Prod.mk.injEq] at h
      obtain ⟨rfl, rfl, rfl⟩ := h
      exact ⟨[BitVec.ofNat 8 n], rfl, .inl ⟨hn, rfl, rfl⟩⟩
    · obtain ⟨rfl, rfl, rfl⟩ : 0 = len ∧ true = indef ∧ bs = rest := by simpa [berLength] using h
      exact ⟨[0x80], rfl, .inr (.inl ⟨rfl, rfl, rfl⟩)⟩
    · rw [berLength_long hpos hle, Option.ite_none_left_eq_some, Option.some.injEq, Prod.mk.injEq, Prod.mk.injEq] at h
      obtain ⟨hfit, rfl, rfl, rfl⟩ := h
      have hk : (bs.take k).length = k := List.length_take_of_le (by omega)
      exact ⟨BitVec.ofNat 8 (0x80 + k) :: bs.take k, by simp,
        .inr (.inr ⟨rfl, bs.take k, by omega, by omega, by rw [hk], rfl⟩)⟩
    · simp [berLength_of_gt hgt] at h

/-! ### Headers -/

/-- A header is decoded exactly when its three parts are: the tag number, the length, and a content that holds a
definite length (R231). -/
theorem berHeader_eq_some {window : Bytes} {last : Nat} {h : BerHeader} :
    berHeader window last = some h ↔ ∃ bs rest content, window = h.b0 :: bs ∧
      berTagNumber h.b0 bs = some (h.num, rest) ∧ berLength rest = some (h.len, h.indef, content) ∧
      (h.indef = false → h.len ≤ content.length) ∧ h.cpos = last - content.length := by
  obtain ⟨b0, num, len, indef, cpos⟩ := h
  constructor
  · intro hh
    unfold berHeader at hh
    split at hh
    · cases hh
    · split at hh
      · cases hh
      · rename_i htag
        split at hh
        · cases hh
        · rename_i hlen
          rw [Option.ite_none_left_eq_some, Option.some.injEq, BerHeader.mk.injEq] at hh
          obtain ⟨hfit, rfl, rfl, rfl, rfl, rfl⟩ := hh
          exact ⟨_, _, _, rfl, htag, hlen, by rintro rfl; simpa using hfit, rfl⟩
  · rintro ⟨bs, rest, content, rfl, htag, hlen, hfit, rfl⟩
    simp only [berHeader, htag, hlen]
    rw [if_neg]
    simpa using hfit

/-- The header decoder accepts exactly the encodings of R231. -/
theorem berHeader_eq_some_iff_written {window : Bytes} {last : Nat} {h : BerHeader} :
    berHeader window last = some h ↔ ∃ tag len content, window = tag ++ len ++ content ∧
      TagWritten tag h.b0 h.num ∧ h.num < 2 ^ 32 ∧ LengthWritten len h.len h.indef ∧
      (h.indef = false → h.len ≤ content.length) ∧ h.cpos = last - content.length := by
  rw [berHeader_eq_some]
  constructor
  · rintro ⟨bs, rest, content, rfl, htag, hlen, hfit, hcpos⟩
    obtain ⟨digits, rfl, htagWritten, hnum⟩ := tagWritten_of_berTagNumber htag
    obtain ⟨octets, rfl, hlenWritten⟩ := lengthWritten_of_berLength hlen
    exact ⟨h.b0 :: digits, octets, content, by simp, htagWritten, hnum, hlenWritten, hfit, hcpos⟩
  · rintro ⟨tag, octets, content, rfl, htag, hnum, hlen, hfit, hcpos⟩
    obtain ⟨digits, rfl, hdigits⟩ := berTagNumber_of_tagWritten htag
    exact ⟨digits ++ (octets ++ content), octets ++ content, content, by simp, by rw [hdigits, if_pos hnum],
      berLength_of_lengthWritten hlen content, hfit, hcpos⟩

/-- Behind tag octets a header needs a number below 2^32, and a length that the content holds (R231). -/
theorem berHeader_of_tagWritten {tag : Bytes} {b0 : Byte} {num : Nat} (htag : TagWritten tag b0 num) {rest : Bytes}
    {last : Nat} {h : BerHeader} (hh : berHeader (tag ++ rest) last = some h) : num < 2 ^ 32 ∧
      ∃ content, berLength rest = some (h.len, h.indef, content) ∧ (h.indef = false → h.len ≤ content.length) := by
  obtain ⟨digits, rfl, hdigits⟩ := berTagNumber_of_tagWritten htag
  obtain ⟨bs, rest', content, hwindow, hnum, hlen, hfit, -⟩ := berHeader_eq_some.1 hh
  obtain ⟨hb0, hbs⟩ := List.cons.inj hwindow
  rw [← hb0, ← hbs, List.append_eq, hdigits, Option.ite_none_right_eq_some, Option.some.injEq, Prod.mk.injEq] at hnum
  obtain ⟨hlt, -, rfl⟩ := hnum
  exact ⟨hlt, content, hlen, hfit⟩

/-- Without a length behind its tag octets a window has no header. -/
theorem berHeader_of_berLength_none {tag : Bytes} {b0 : Byte} {num : Nat} (htag : TagWritten tag b0 num)
    {rest : Bytes} (h : berLength rest = none) (last : Nat) : berHeader (tag ++ rest) last = none := by
  refine Option.eq_none_iff_forall_ne_some.2 fun header hh => ?_
  obtain ⟨-, content, hlen, -⟩ := berHeader_of_tagWritten htag hh
  simp [h] at hlen

theorem berHeader_of_number_too_large {tag : Bytes} {b0 : Byte} {num : Nat} (htag : TagWritten tag b0 num)
    (h : 2 ^ 32 ≤ num) (rest : Bytes) (last : Nat) : berHeader (tag ++ rest) last = none := by
  refine Option.eq_none_iff_forall_ne_some.2 fun header hh => ?_
  obtain ⟨hlt, -⟩ := berHeader_of_tagWritten htag hh
  omega

theorem berHeader_of_content_too_short {tag : Bytes} {b0 : Byte} {num : Nat} (htag : TagWritten tag b0 num)
    {octets content : Bytes} {len : Nat} (hlen : LengthWritten octets len false) (h : content.length < len)
    (last : Nat) : berHeader (tag ++ octets ++ content) last = none := by
  refine Option.eq_none_iff_forall_ne_some.2 fun header hh => ?_
  rw [List.append_assoc] at hh
  obtain ⟨-, content', hread, hfit⟩ := berHeader_of_tagWritten htag hh
  rw [berLength_of_lengthWritten hlen, Option.some.injEq, Prod.mk.injEq, Prod.mk.injEq] at hread
  obtain ⟨rfl, hdefinite, rfl⟩ := hread
  have := hfit hdefinite.symm
  omega

theorem berHeader_of_endless_digits {b0 : Byte} (h : b0.toNat % 32 = 0x1F) (ds : List (BitVec 7)) (last : Nat) :
    berHeader (b0 :: moreDigits ds) last = none := by
  refine Option.eq_none_iff_forall_ne_some.2 fun header hh => ?_
  obtain ⟨bs, rest, content, hwindow, htag, -⟩ := berHeader_eq_some.1 hh
  obtain ⟨rfl, rfl⟩ := List.cons.inj hwindow
  rw [berTagNumber_of_high h, berHighTag_moreDigits] at htag
  cases htag

/-- The class and the constructed bit of an identifier octet (R231). -/
theorem BerHeader.cls_cons (h : BerHeader) :
    h.cls.toNat = h.b0.toNat / 64 ∧ (h.cons = true ↔ h.b0.toNat / 32 % 2 = 1) := by
  have hb0 := h.b0.isLt
  constructor
  · rw [BerHeader.cls, BitVec.extractLsb'_toNat, Nat.shiftRight_eq_div_pow]
    omega
  · rw [BerHeader.cons, BitVec.getLsbD, Nat.testBit_eq_decide_div_mod_eq, decide_eq_true_iff]

/-- Settles O58: tag octets and length octets are what the two decoders accept, and each failure is one of theirs. -/
theorem berHeaderReadsEveryEncoding : Obligations.BerHeaderReadsEveryEncoding := by
  unfold Obligations.BerHeaderReadsEveryEncoding
  refine ⟨fun _ _ _ => berHeader_eq_some_iff_written, BerHeader.cls_cons, fun _ => rfl,
    fun _ ds last h => berHeader_of_endless_digits h ds last, fun tag b0 num last htag => ?_⟩
  refine ⟨?noLength, fun hnum rest => berHeader_of_number_too_large htag hnum rest last,
    fun l0 rest hl0 => berHeader_of_berLength_none htag (berLength_of_gt hl0 rest) last,
    fun k rest hk hshort => berHeader_of_berLength_none htag ?lengthBytes last,
    fun _ _ _ hlen hcut => berHeader_of_content_too_short htag hlen hcut last⟩
  case noLength => simpa using berHeader_of_berLength_none htag (rest := []) rfl last
  case lengthBytes => rw [berLength_long (by omega) hk, if_pos hshort]

end Sys2Proof.Machine
end

section
/-! PROOFS. The commands BER_TAG, BER_SEQ and BER_INT (47_ber.md R230 to R239): the outcome of each rule by its checks
and its header, the two's-complement value BER_INT stores, cut windows, and that no rule reads outside its window. -/

namespace Sys2Proof.Machine

/-! ### Two's complement -/

theorem beNat_cons (b : Byte) (s : Bytes) : beNat (b :: s) = beNat s + 256 ^ s.length * b.toNat := by
  have h := leNat_append_singleton s.reverse b
  rwa [← List.reverse_cons, leNat, leNat, List.reverse_reverse, List.reverse_reverse, List.length_reverse] at h

/-- SBE(s) is the balanced remainder of BE(s) modulo 256^n for an n-byte string (R7). -/
theorem signedBe_eq_bmod (s : Bytes) : signedBe s = (beNat s : Int).bmod (256 ^ s.length) := by
  cases s with
  | nil => rfl
  | cons b s =>
    have hlt := beNat_lt s
    have hcons := beNat_cons b s
    have hpow : (2 : Int) ^ (8 * (b :: s).length) = ((256 ^ s.length : Nat) : Int) * 256 := by
      rw [pow_mul, List.length_cons, pow_succ]
      norm_num
    rw [signedBe, hpow, List.length_cons, pow_succ]
    generalize 256 ^ s.length = m at *
    symm
    split
    · next hmsb =>
      have hb : m * 128 ≤ m * b.toNat := Nat.mul_le_mul_left m (by simpa [BitVec.msb_eq_decide] using hmsb)
      have hb' : m * b.toNat ≤ m * 255 := Nat.mul_le_mul_left m (by omega)
      exact (Int.bmod_eq_iff (by omega)).2 ⟨by omega, by omega, ⟨-1, by push_cast; ring⟩⟩
    · next hmsb =>
      have hdigit : b.toNat < 128 := by simpa [BitVec.msb_eq_decide] using hmsb
      have hb : m * b.toNat ≤ m * 127 := Nat.mul_le_mul_left m (by omega)
      exact Int.bmod_eq_of_le_mul_two (by omega) (by omega)

/-- be_n(v) holds v modulo 2^(8n), read back in the balanced range (R7). -/
theorem signedBe_beBytesInt (n : Nat) (v : Int) : signedBe (beBytesInt n v) = v.bmod (256 ^ n) := by
  have hpow : (2 : Int) ^ (8 * n) = ((256 ^ n : Nat) : Int) := by
    rw [pow_mul]
    norm_num
  have hpos : (0 : Int) < (256 ^ n : Nat) := by positivity
  have hnat : ((v % (256 ^ n : Nat)).toNat : Int) = v % (256 ^ n : Nat) :=
    Int.toNat_of_nonneg (Int.emod_nonneg v hpos.ne')
  rw [signedBe_eq_bmod, beBytesInt_length, beBytesInt, beNat_beBytes, hpow, Int.natCast_mod, hnat, Int.emod_bmod,
    Int.emod_bmod]

/-- A two's-complement string keeps its value in any n bytes it fits in (R237). -/
theorem signedBe_beBytesInt_signedBe {s : Bytes} {n : Nat} (h : s.length ≤ n) :
    signedBe (beBytesInt n (signedBe s)) = signedBe s := by
  have hpos : 0 < 256 ^ s.length := by positivity
  have hle : 256 ^ s.length ≤ 256 ^ n := Nat.pow_le_pow_right (by decide) h
  have hlow := Int.le_bmod (x := beNat s) hpos
  have hhigh := Int.bmod_lt (x := beNat s) hpos
  rw [← signedBe_eq_bmod] at hlow hhigh
  rw [signedBe_beBytesInt]
  generalize 256 ^ s.length = k at *
  exact Int.bmod_eq_of_le (by omega) (by omega)

/-! ### The rules -/

section
variable {s : State} {h : BerHeader}

theorem berWindow_of_legalWindow (hw : s.legalWindow) : berWindow s = .ok () := berWindow_eq_ok.2 hw

theorem berWindow_of_not_legalWindow (hw : ¬ s.legalWindow) : berWindow s = .error .addr :=
  require_eq_error.2 ⟨by simpa using hw, rfl⟩

theorem ruleBerTag_of_not_legalWindow (hw : ¬ s.legalWindow) : ruleBerTag s = .error .addr :=
  bind_of_eq_error (berWindow_of_not_legalWindow hw)

theorem ruleBerTag_of_no_header (hw : s.legalWindow) (hh : s.berHeader = none) :
    ruleBerTag s = .ok Effect.negative := by
  rw [ruleBerTag, bind_of_eq_ok (berWindow_of_legalWindow hw), hh]

theorem ruleBerTag_of_header (hw : s.legalWindow) (hh : s.berHeader = some h) :
    ruleBerTag s = .ok (berConsume h) := by
  rw [ruleBerTag, bind_of_eq_ok (berWindow_of_legalWindow hw), hh]

theorem ruleBerSeq_of_not_legalWindow (hw : ¬ s.legalWindow) : ruleBerSeq s = .error .addr :=
  bind_of_eq_error (berWindow_of_not_legalWindow hw)

/-- BER_SEQ gives a negative result unless there is a header with the octet 0x30 (R236). -/
theorem ruleBerSeq_of_no_sequence (hw : s.legalWindow) (hh : ∀ h, s.berHeader = some h → h.b0 ≠ 0x30) :
    ruleBerSeq s = .ok Effect.negative := by
  rw [ruleBerSeq, bind_of_eq_ok (berWindow_of_legalWindow hw)]
  cases hheader : s.berHeader with
  | none => rfl
  | some h => exact if_neg (hh h hheader)

theorem ruleBerSeq_of_sequence (hw : s.legalWindow) (hh : s.berHeader = some h) (hb0 : h.b0 = 0x30) :
    ruleBerSeq s = .ok (berConsume h) := by
  rw [ruleBerSeq, bind_of_eq_ok (berWindow_of_legalWindow hw), hh]
  exact if_pos hb0

/-- What BER_INT does with the header of its window, past its checks (R237). -/
def berIntOutcome (s : State) : Option BerHeader → Except ErrCode Effect
  | none => .ok Effect.negative
  | some h => if berIntAccepts h (s.argN 1) then .ok (berIntEffect s h (s.argN 1)) else .ok Effect.negative

/-- BER_INT: the checks of the length, the destination and the window, in this order, and then the header (R237). -/
theorem ruleBerInt_eq (s : State) : ruleBerInt s = (checkLen s (s.argN 1) >>= fun _ =>
    checkRange s (s.argN 0) (s.argN 1) >>= fun _ => berWindow s >>= fun _ => berIntOutcome s s.berHeader) := by
  rw [ruleBerInt]
  cases s.berHeader <;> rfl

theorem ruleBerInt_of_not_legalLen (hlen : ¬ s.legalLen (s.argN 1)) : ruleBerInt s = .error .len :=
  bind_of_eq_error (checkLen_of_not_legalLen hlen)

theorem ruleBerInt_of_not_inside (hlen : s.legalLen (s.argN 1))
    (hout : ¬ (s.inRange (s.argN 0) (s.argN 1) ∧ s.legalWindow)) : ruleBerInt s = .error .addr :=
  (bind_of_eq_ok (checkLen_of_legalLen hlen)).trans <| checkRange_bind_eq_addr fun hin =>
    bind_of_eq_error (berWindow_of_not_legalWindow fun hw => hout ⟨hin, hw⟩)

theorem ruleBerInt_of_inside (hlen : s.legalLen (s.argN 1)) (hin : s.inRange (s.argN 0) (s.argN 1))
    (hw : s.legalWindow) : ruleBerInt s = berIntOutcome s s.berHeader := by
  rw [ruleBerInt_eq, bind_of_eq_ok (checkLen_of_legalLen hlen), checkRange_bind_of_inRange hin,
    bind_of_eq_ok (berWindow_of_legalWindow hw)]

theorem berIntAccepts_iff {l : Nat} : berIntAccepts h l = true ↔ h.b0 = 0x02 ∧ h.indef = false ∧ h.len ≤ l := by
  simp [berIntAccepts, and_assoc]

theorem berIntOutcome_of_accepted (hh : h.b0 = 0x02 ∧ h.indef = false ∧ h.len ≤ s.argN 1) :
    berIntOutcome s (some h) = .ok (berIntEffect s h (s.argN 1)) :=
  if_pos (berIntAccepts_iff.2 hh)

theorem berIntOutcome_of_not_accepted (hh : ¬ (h.b0 = 0x02 ∧ h.indef = false ∧ h.len ≤ s.argN 1)) :
    berIntOutcome s (some h) = .ok Effect.negative :=
  if_neg (mt berIntAccepts_iff.1 hh)

theorem ruleBerInt_of_accepted (hlen : s.legalLen (s.argN 1)) (hin : s.inRange (s.argN 0) (s.argN 1))
    (hw : s.legalWindow) (hh : s.berHeader = some h) (haccepts : h.b0 = 0x02 ∧ h.indef = false ∧ h.len ≤ s.argN 1) :
    ruleBerInt s = .ok (berIntEffect s h (s.argN 1)) := by
  rw [ruleBerInt_of_inside hlen hin hw, hh, berIntOutcome_of_accepted haccepts]

theorem ruleBerInt_of_none_accepted (hlen : s.legalLen (s.argN 1)) (hin : s.inRange (s.argN 0) (s.argN 1))
    (hw : s.legalWindow)
    (hh : ∀ h, s.berHeader = some h → ¬ (h.b0 = 0x02 ∧ h.indef = false ∧ h.len ≤ s.argN 1)) :
    ruleBerInt s = .ok Effect.negative := by
  rw [ruleBerInt_of_inside hlen hin hw]
  cases hheader : s.berHeader with
  | none => rfl
  | some h => exact berIntOutcome_of_not_accepted (hh h hheader)

end

/-! ### The commands -/

/-- A command whose rule has a negative result ends with RESULT 0 and no write (R234, R253). -/
theorem exec_of_ruleOf_negative {i : Instr} {s : State} (h : ruleOf i s = .ok Effect.negative) :
    exec i s = .next (s.ended false) :=
  exec_of_ruleOf h

/-- The end of a command that consumes a header: set_res, and BER_POS at the content (R233, R235). -/
theorem exec_of_ruleOf_consume {i : Instr} {s : State} {h : BerHeader} (hrule : ruleOf i s = .ok (berConsume h)) :
    exec i s = .next { s.ended true with res := berRes h, berPos := BitVec.ofNat 32 h.cpos } :=
  exec_of_ruleOf hrule

/-- Settles O55: the window check, then the negative result or the consumed header. -/
theorem berTagCommand : Obligations.BerTagCommand := by
  unfold Obligations.BerTagCommand
  exact fun s => ⟨fun hw => fails_of_ruleOf (ruleBerTag_of_not_legalWindow hw),
    fun hw hh => exec_of_ruleOf_negative (ruleBerTag_of_no_header hw hh),
    fun hw h hh => ⟨_, exec_of_ruleOf_consume (ruleBerTag_of_header hw hh), rfl, berRes_res0_toNat h, rfl, rfl, rfl⟩⟩

/-- RES0 for the identifier octet 0x30: universal, constructed (R233, R236). -/
theorem berRes_res0_of_sequence {h : BerHeader} (hb0 : h.b0 = 0x30) :
    (berRes h).res0.toNat = 0x430 + h.indef.toNat * 2 ^ 11 := by
  have hcls : h.cls = 0 := by rw [BerHeader.cls, hb0]; rfl
  have hcons : h.cons = true := by rw [BerHeader.cons, hb0]; rfl
  rw [berRes_res0_toNat, hb0, hcls, hcons]
  rfl

/-- Settles O56: BER_SEQ consumes a header of octet 0x30 as BER_TAG does. -/
theorem berSeqCommand : Obligations.BerSeqCommand := by
  unfold Obligations.BerSeqCommand
  exact fun s => ⟨fun hw => fails_of_ruleOf (ruleBerSeq_of_not_legalWindow hw),
    fun hw hh => exec_of_ruleOf_negative (ruleBerSeq_of_no_sequence hw hh),
    fun hw h hh hb0 => ⟨_, exec_of_ruleOf_consume (ruleBerSeq_of_sequence hw hh hb0), rfl,
      berRes_res0_of_sequence hb0, rfl, rfl, rfl⟩⟩

/-- RES0 for the identifier octet 0x02 of a definite length: universal, primitive (R233, R237). -/
theorem berRes_res0_of_integer {h : BerHeader} (hb0 : h.b0 = 0x02) (hdefinite : h.indef = false) :
    (berRes h).res0.toNat = 0x02 := by
  have hcls : h.cls = 0 := by rw [BerHeader.cls, hb0]; rfl
  have hcons : h.cons = false := by rw [BerHeader.cons, hb0]; rfl
  rw [berRes_res0_toNat, hb0, hcls, hcons, hdefinite]
  rfl

/-- The string BER_INT stores has L bytes and the value of the content (R237). -/
theorem signedBe_berInt_stored {s t : State} {h : BerHeader} {l : Nat} (hle : h.len ≤ l)
    (ht : t.dmem = s.dmem.write (s.argN 0) (beBytesInt l (signedBe (s.memRead h.cpos h.len)))) :
    signedBe (t.memRead (s.argN 0) l) = signedBe (s.memRead h.cpos h.len) := by
  have hread := State.memRead_of_write s t _ _ ht
  rw [beBytesInt_length] at hread
  rw [hread, signedBe_beBytesInt_signedBe (by simpa using hle)]

/-- Settles O57: the checks in their order, then the header decides between no write and the integer's. -/
theorem berIntCommand : Obligations.BerIntCommand := by
  unfold Obligations.BerIntCommand
  intro s
  refine ⟨fun hlen => fails_of_ruleOf (ruleBerInt_of_not_legalLen hlen),
    fun hlen hout => fails_of_ruleOf (ruleBerInt_of_not_inside hlen hout),
    fun hlen hin hw hh => exec_of_ruleOf_negative (ruleBerInt_of_none_accepted hlen hin hw hh),
    fun hlen hin hw h hh haccepts => ?_⟩
  have ⟨hb0, hdefinite, hle⟩ := haccepts
  exact ⟨_, exec_of_ruleOf (ruleBerInt_of_accepted hlen hin hw hh haccepts), rfl,
    berRes_res0_of_integer hb0 hdefinite, rfl, rfl, rfl, sameDmemOutside_of_write rfl rfl (beBytesInt_length _ _),
    signedBe_berInt_stored hle rfl⟩

/-! ### Cut windows -/

/-- Bytes behind a window leave its header as it is (R231). -/
theorem berHeader_append {window : Bytes} {last : Nat} {h : BerHeader} (hh : berHeader window last = some h)
    (more : Bytes) : berHeader (window ++ more) (last + more.length) = some h := by
  obtain ⟨tag, octets, content, rfl, htag, hnum, hlen, hfit, hcpos⟩ := berHeader_eq_some_iff_written.1 hh
  refine berHeader_eq_some_iff_written.2 ⟨tag, octets, content ++ more, by simp, htag, hnum, hlen, fun hdef => ?_, ?_⟩
  · exact (hfit hdef).trans (by simp)
  · rw [hcpos, List.length_append, Nat.add_sub_add_right]

/-- The window is its part up to an earlier end, and the bytes behind that. -/
theorem State.berBytes_eq_append {s : State} {e : Word} (hle : s.berPos.toNat ≤ e.toNat)
    (hend : e.toNat ≤ s.berEnd.toNat) :
    s.berBytes = { s with berEnd := e }.berBytes ++ s.memRead e.toNat (s.berEnd.toNat - e.toNat) := by
  have hsize : s.berEnd.toNat - s.berPos.toNat = (e.toNat - s.berPos.toNat) + (s.berEnd.toNat - e.toNat) := by omega
  rw [State.berBytes, hsize, State.memRead_append, Nat.add_sub_cancel' hle]
  rfl

/-- A header of the cut window is the header of the whole one. -/
theorem State.berHeader_of_cut {s : State} {e : Word} {h : BerHeader} (hle : s.berPos.toNat ≤ e.toNat)
    (hend : e.toNat ≤ s.berEnd.toNat) (hh : { s with berEnd := e }.berHeader = some h) : s.berHeader = some h := by
  have happend := berHeader_append hh (s.memRead e.toNat (s.berEnd.toNat - e.toNat))
  rwa [State.memRead_length, Nat.add_sub_cancel' hend, ← State.berBytes_eq_append hle hend] at happend

/-- A window cut before the end of its definite-length value is legal and has no header (R239). -/
theorem State.berHeader_of_cut_eq_none {s : State} {e : Word} {h : BerHeader} (hw : s.legalWindow)
    (hh : s.berHeader = some h) (hdefinite : h.indef = false) (hle : s.berPos.toNat ≤ e.toNat)
    (hcut : e.toNat < h.cpos + h.len) :
    { s with berEnd := e }.legalWindow ∧ { s with berEnd := e }.berHeader = none := by
  obtain ⟨-, -, hinside⟩ := State.berHeader_bounds hw hh
  have hend : e.toNat ≤ s.berEnd.toNat := by have := hinside hdefinite; omega
  have hw' : { s with berEnd := e }.legalWindow := ⟨hend.trans hw.1, hle⟩
  refine ⟨hw', Option.eq_none_iff_forall_ne_some.2 fun h' hh' => ?_⟩
  obtain rfl : h = h' := Option.some.inj (hh.symm.trans (State.berHeader_of_cut hle hend hh'))
  obtain ⟨-, -, hinside'⟩ := State.berHeader_bounds hw' hh'
  exact absurd (hinside' hdefinite) (by simpa using hcut)

/-- Settles O59: a header of the cut window would be that of the whole one, whose value ends behind the cut. -/
theorem berTruncationIsNegative : Obligations.BerTruncationIsNegative := by
  unfold Obligations.BerTruncationIsNegative
  intro s h e hw hh hdefinite hle hcut
  obtain ⟨hw', hnone⟩ := State.berHeader_of_cut_eq_none hw hh hdefinite hle hcut
  refine ⟨exec_of_ruleOf_negative (ruleBerTag_of_no_header hw' hnone),
    exec_of_ruleOf_negative (ruleBerSeq_of_no_sequence hw' (by simp [hnone])),
    fun hlen hin => exec_of_ruleOf_negative ?_⟩
  exact ruleBerInt_of_none_accepted (s := { s with berEnd := e }) hlen hin hw' (by simp [hnone])

/-! ### What the commands read -/

theorem State.memRead_congr {s t : State} {a n : Nat}
    (h : ∀ x, a ≤ x → x < a + n → t.readByte x = s.readByte x) : t.memRead a n = s.memRead a n :=
  List.map_congr_left fun x hx => h x (List.mem_range'_1.1 hx).1 (List.mem_range'_1.1 hx).2

section
variable {s : State} {m : Memory}
  (hm : ∀ x, s.berPos.toNat ≤ x → x < s.berEnd.toNat → { s with dmem := m }.readByte x = s.readByte x)
include hm

theorem berHeader_with_dmem : { s with dmem := m }.berHeader = s.berHeader := by
  have hbytes : { s with dmem := m }.berBytes = s.berBytes :=
    State.memRead_congr (a := s.berPos.toNat) (n := s.berEnd.toNat - s.berPos.toNat)
      fun x hpos hend => hm x hpos (by omega)
  rw [State.berHeader, hbytes]
  rfl

/-- The content BER_INT reads lies in the window (R237). -/
theorem berIntOutcome_with_dmem (hw : s.legalWindow) :
    berIntOutcome { s with dmem := m } s.berHeader = berIntOutcome s s.berHeader := by
  cases hh : s.berHeader with
  | none => rfl
  | some h =>
    obtain ⟨hpos, -, hinside⟩ := State.berHeader_bounds hw hh
    by_cases haccepts : h.b0 = 0x02 ∧ h.indef = false ∧ h.len ≤ s.argN 1
    · have hend := hinside haccepts.2.1
      have hcontent : { s with dmem := m }.memRead h.cpos h.len = s.memRead h.cpos h.len :=
        State.memRead_congr fun x hlow hhigh => hm x (by omega) (by omega)
      rw [berIntOutcome_of_accepted haccepts, berIntOutcome_of_accepted (s := { s with dmem := m }) haccepts,
        berIntEffect, hcontent]
      rfl
    · rw [berIntOutcome_of_not_accepted haccepts, berIntOutcome_of_not_accepted (s := { s with dmem := m }) haccepts]

/-- The outcome of a BER command depends on no byte outside its window (R230). -/
theorem ruleOf_ber_with_dmem {i : Instr} (hi : i = .berTag ∨ i = .berSeq ∨ i = .berInt) :
    ruleOf i { s with dmem := m } = ruleOf i s := by
  have hheader := berHeader_with_dmem hm
  obtain rfl | rfl | rfl := hi
  · show ruleBerTag _ = ruleBerTag s
    rw [ruleBerTag, hheader]
    rfl
  · show ruleBerSeq _ = ruleBerSeq s
    rw [ruleBerSeq, hheader]
    rfl
  · show ruleBerInt _ = ruleBerInt s
    rw [ruleBerInt_eq, ruleBerInt_eq, hheader]
    refine bind_congr fun _ => bind_congr fun _ => ?_
    by_cases hw : s.legalWindow
    · rw [berIntOutcome_with_dmem hm hw]
      rfl
    · rw [bind_of_eq_error (berWindow_of_not_legalWindow hw)]
      exact bind_of_eq_error (berWindow_of_not_legalWindow (s := { s with dmem := m }) hw)

end

/-- A BER_INT that succeeds stores L bytes at arg[0] (R237). -/
theorem ruleBerInt_store {s : State} {e : Effect} (h : ruleBerInt s = .ok e) (hresult : e.result = true) :
    ∃ bs : Bytes, bs.length = s.argN 1 ∧ e.dmem = some (s.argN 0, bs) := by
  rw [ruleBerInt_eq] at h
  simp only [bind_eq_ok] at h
  obtain ⟨-, -, -, -, -, -, h⟩ := h
  cases hheader : s.berHeader with
  | none =>
    rw [hheader] at h
    obtain rfl := Except.ok.inj h
    cases hresult
  | some header =>
    rw [hheader, berIntOutcome] at h
    split at h
    · obtain rfl := Except.ok.inj h
      exact ⟨_, beBytesInt_length _ _, rfl⟩
    · obtain rfl := Except.ok.inj h
      cases hresult

/-- Two states that differ in DMEM hold the same bytes where one effect has stored (R71). -/
theorem memRead_completeOk_with_dmem {s : State} {m : Memory} {e : Effect} {a : Nat} {bs : Bytes}
    (h : e.dmem = some (a, bs)) :
    ({ s with dmem := m }.completeOk e).memRead a bs.length = (s.completeOk e).memRead a bs.length := by
  rw [State.memRead_of_write s (s.completeOk e) a bs (e.apply_dmem_some s a bs h)]
  exact State.memRead_of_write { s with dmem := m } _ a bs (e.apply_dmem_some _ a bs h)

/-- Settles O60: both states give the rule one outcome, and completing it takes from the state only what they share. -/
theorem berReadsOnlyItsWindow : Obligations.BerReadsOnlyItsWindow := by
  unfold Obligations.BerReadsOnlyItsWindow
  intro s m i hi hm
  have hrule := ruleOf_ber_with_dmem hm hi
  cases hs : ruleOf i s with
  | error c =>
    exact ⟨_, _, fails_of_ruleOf hs, fails_of_ruleOf (hrule.trans hs), rfl, rfl, rfl, rfl, fun hr => nomatch hr⟩
  | ok e =>
    refine ⟨_, _, exec_of_ruleOf hs, exec_of_ruleOf (hrule.trans hs), rfl, rfl, rfl, rfl, ?stored⟩
    case stored =>
      rintro hresult rfl
      obtain ⟨bs, hlen, hdmem⟩ := ruleBerInt_store hs hresult
      rw [← hlen]
      exact memRead_completeOk_with_dmem hdmem

end Sys2Proof.Machine
end

section
/-! PROOFS. Completion and reset (60_exceptions.md R250 to R254, R262, R263; 70_reset_and_hazards.md R281, R282): the
engine's step, the three outcomes, the interrupt level, the end of a running command, and abandoned outputs. -/

namespace Sys2Proof.Machine

/-! ### The engine's step -/

/-- The engine moves when a command runs and no input is early (log entry 6). -/
theorem turn_engine_of_no_early {s : State} (hrunning : s.phase = .running)
    (h : s.inbox = [] ∨ ∃ e rest, s.inbox = e :: rest ∧ e.early = false) : turn s = .engine := by
  obtain hinbox | ⟨e, rest, hinbox, hearly⟩ := h
  · simp only [turn, hrunning, hinbox]
  · simp [turn, hrunning, hinbox, hearly]

theorem engineStep_of_decode {s : State} {i : Instr} (h : decode s.cmdl = .ok i) : engineStep s = exec i s := by
  simp only [engineStep, h]

/-- Settles O5: with no early input the engine moves, and its step is exec of the decoded command. -/
theorem stepRunsDecodedCommand : Obligations.StepRunsDecodedCommand := by
  unfold Obligations.StepRunsDecodedCommand
  intro s i hrunning hinbox hdec
  rw [step_of_turn_engine (turn_engine_of_no_early hrunning hinbox), engineStep_of_decode hdec]

/-! ### The end of a running command -/

/-- A step of a running command completes it, or performs the first input and leaves the others to come. -/
theorem step_of_running {s : State} (hrunning : s.phase = .running) :
    step s = .next (s.complete (ruleOfWord s.cmdl s)) ∨
      ∃ e rest, s.inbox = e :: rest ∧ step s = hostInput { s with inbox := rest } e.input := by
  match hinbox : s.inbox with
  | [] =>
    left
    rw [step_of_turn_engine (turn_engine_of_no_early hrunning (.inl hinbox)), engineStep_eq]
  | e :: rest =>
    cases hearly : e.early with
    | false =>
      left
      rw [step_of_turn_engine (turn_engine_of_no_early hrunning (.inr ⟨e, rest, hinbox, hearly⟩)), engineStep_eq]
    | true => exact .inr ⟨e, rest, rfl, step_of_turn_host (turn_of_inbox_cons hinbox (.inr hearly))⟩

theorem complete_phase (s : State) (r : Except ErrCode Effect) : (s.complete r).phase = .idle := by
  cases r <;> rfl

theorem csrWrite_inbox (s : State) (c : Csr) (v : Word) : (csrWrite s c v).inbox = s.inbox := by
  obtain ⟨-, -, hw⟩ | hw | hw | ⟨_, _, _, _, _, _, hw⟩ := csrWrite_cases s c v <;> rw [hw] <;> rfl

theorem dmemHostRead_inbox (s : State) (off size : Nat) : (dmemHostRead s off size).inbox = s.inbox := by
  unfold dmemHostRead
  split <;> rfl

theorem dmemHostWrite_inbox (s : State) (off size : Nat) (v : Word) :
    (dmemHostWrite s off size v).inbox = s.inbox := by
  unfold dmemHostWrite
  split <;> rfl

/-- No host input changes which inputs are still to come (log entry 7). -/
theorem hostInput_inbox {s t : State} {input : HostInput} (h : hostInput s input = .next t) : t.inbox = s.inbox := by
  cases input with
  | read addr size =>
    obtain ⟨off, -, -, rfl⟩ | ⟨off, -, -, rfl⟩ := hostRead_cases h
    · rfl
    · exact dmemHostRead_inbox s off size
  | write addr size v =>
    obtain ⟨off, -, -, rfl⟩ | ⟨off, -, -, rfl⟩ := hostWrite_cases h
    · exact csrWrite_inbox s (csrAt off) v
    · exact dmemHostWrite_inbox s off size v
  | powerOn =>
    obtain rfl := Host.Outcome.next.inj h
    rfl

/-- No command runs after the outcome, or it is a refusal. -/
def EndsOrRefused : Host.Outcome State Fault Refusal → Prop
  | .next t => t.phase = .idle
  | .fault _ => False
  | .refused _ => True

theorem run_succ_of_next {s t : State} (h : step s = .next t) (k : Nat) : core.run (k + 1) s = core.run k t := by
  have hstep : core.step s = .next t := h
  simp only [Host.Core.run, hstep]

theorem run_succ_of_refused {s : State} {r : Refusal} (h : step s = .refused r) (k : Nat) :
    core.run (k + 1) s = .refused r := by
  have hstep : core.step s = .refused r := h
  simp only [Host.Core.run, hstep]

/-- By induction on the inputs to come: each step takes one of them, or completes the command. -/
theorem exists_run_endsOrRefused {s : State} {inbox : List HostEvent} (hinbox : s.inbox = inbox)
    (hrunning : s.phase = .running) :
    ∃ k, 1 ≤ k ∧ k ≤ inbox.length + 1 ∧ EndsOrRefused (core.run k s) := by
  induction inbox generalizing s with
  | nil =>
    obtain hstep | ⟨e, rest, hcons, -⟩ := step_of_running hrunning
    · exact ⟨1, le_rfl, le_rfl, (run_succ_of_next hstep 0) ▸ complete_phase _ _⟩
    · simp [hinbox] at hcons
  | cons e rest ih =>
    obtain hstep | ⟨e', rest', hcons, hstep⟩ := step_of_running hrunning
    · exact ⟨1, le_rfl, by simp, (run_succ_of_next hstep 0) ▸ complete_phase _ _⟩
    · obtain ⟨rfl, rfl⟩ := List.cons.inj (hinbox.symm.trans hcons)
      cases hout : hostInput { s with inbox := rest } e.input with
      | next t =>
        rw [hout] at hstep
        obtain hidle | hrunning' := t.idle_or_running
        · exact ⟨1, le_rfl, by simp, (run_succ_of_next hstep 0) ▸ hidle⟩
        · obtain ⟨k, hpos, hle, hend⟩ := ih (hostInput_inbox hout) hrunning'
          exact ⟨k + 1, by omega, by simpa using hle, (run_succ_of_next hstep k) ▸ hend⟩
      | fault r => nomatch r
      | refused r =>
        rw [hout] at hstep
        exact ⟨1, le_rfl, by simp, (run_succ_of_refused hstep 0) ▸ trivial⟩

/-- Settles O7: the engine completes the command at the latest when the inbox is empty. -/
theorem issuedCommandsEndUnlessAnAccessIsRefused : Obligations.IssuedCommandsEndUnlessAnAccessIsRefused := by
  unfold Obligations.IssuedCommandsEndUnlessAnAccessIsRefused
  exact fun s hrunning => exists_run_endsOrRefused rfl hrunning

/-! ### The three outcomes -/

/-- The rule's outcome is an error or a success, never a negative result (R250). -/
def NeverNegative (r : Except ErrCode Effect) : Prop := ∀ e, r = .ok e → e.result = true

theorem NeverNegative.ok {e : Effect} (h : e.result = true) : NeverNegative (.ok e) := by
  rintro _ ⟨⟩
  exact h

theorem NeverNegative.bind {α : Type} {x : Except ErrCode α} {f : α → Except ErrCode Effect}
    (h : ∀ a, NeverNegative (f a)) : NeverNegative (x >>= f) := by
  intro e he
  obtain ⟨a, -, ha⟩ := bind_eq_ok.1 he
  exact h a e ha

theorem ecRule_neverNegative {s : State} {points : List (Fin 8)} {k : Curve → Except ErrCode Effect}
    (hk : ∀ c, NeverNegative (k c)) : NeverNegative (ecRule s points k) := by
  refine .bind fun _ => ?_
  induction points with
  | nil => exact .bind hk
  | cons i is ih => exact .bind fun _ => ih

theorem ecStore_neverNegative (v : Bool) (s : State) (c : Curve) (x : Except ErrCode Point) :
    NeverNegative (ecStore v s c x) :=
  .bind fun _ => .bind fun _ => .ok rfl

/-- Only the rules of the five commands of R250 have a negative result. -/
theorem ruleOf_neverNegative {i : Instr} (h : canBeNegative i = false) (s : State) : NeverNegative (ruleOf i s) := by
  cases i with
  | ctCompare | ecCheck | berTag | berSeq | berInt => cases h
  | nop | zeroize | ghClear => exact .ok rfl
  | ghSetH | ghDeriveH | ghLoadX | ghStoreX => exact .bind fun _ => .ok rfl
  | aesKey | bfKey | ghUpdate => exact .bind fun _ => .bind fun _ => .ok rfl
  | aesEnc | aesDec | bfEnc | bfDec | gfMul | x25519 | x448 =>
    exact .bind fun _ => .bind fun _ => .bind fun _ => .ok rfl
  | modexp =>
    exact .bind fun _ => .bind fun _ => .bind fun _ => .bind fun _ => .bind fun _ => .bind fun _ => .ok rfl
  | ecAdd v =>
    rw [ruleOf_ecAdd]
    exact ecRule_neverNegative fun c =>
      .bind fun _ => .bind fun _ => .bind fun _ => .bind fun _ => ecStore_neverNegative v s c _
  | ecDbl v =>
    rw [ruleOf_ecDbl]
    exact ecRule_neverNegative fun c => .bind fun _ => .bind fun _ => ecStore_neverNegative v s c _

/-- Settles O22: an error, or an outcome whose Boolean is 0 only for the commands that can be negative. -/
theorem everyCommandHasOneOfThreeOutcomes : Obligations.EveryCommandHasOneOfThreeOutcomes := by
  unfold Obligations.EveryCommandHasOneOfThreeOutcomes
  intro i s
  cases hr : ruleOf i s with
  | error c => exact ⟨_, fails_of_ruleOf hr, rfl, rfl, .inr (.inr ⟨nofun, rfl⟩)⟩
  | ok e =>
    refine ⟨_, exec_of_ruleOf hr, rfl, rfl, ?_⟩
    cases hresult : e.result with
    | true => exact .inl ⟨rfl, hresult⟩
    | false =>
      refine .inr (.inl ⟨rfl, hresult, ?_⟩)
      by_contra hnever
      have hsuccess := ruleOf_neverNegative (by simpa using hnever) s e hr
      simp [hresult] at hsuccess

/-- Of the forms of `RuleWrites` only a verdict can be negative, and it writes nothing. -/
theorem RuleWrites.eq_negative {s : State} {i : Instr} {e : Effect} (h : RuleWrites s i e)
    (hresult : e.result = false) : e = Effect.negative := by
  cases h with
  | verdict i b =>
    obtain rfl : b = false := hresult
    rfl
  | store | zeroize | aesKey | bfKey | subkey | accumulator | consume | berInt => cases hresult

/-- Settles O23: an error applies no write of the rule, and a negative result has none. -/
theorem failingCommandsChangeNothingElse : Obligations.FailingCommandsChangeNothingElse := by
  unfold Obligations.FailingCommandsChangeNothingElse
  intro i s t h hresult
  obtain ⟨e, he, rfl⟩ | ⟨c, -, rfl⟩ := exec_cases h
  · obtain rfl := (ruleOf_writes he).eq_negative hresult
    rfl
  · rfl

/-! ### The interrupt level -/

theorem csrRead_ctrl_bit0 (s : State) : (csrRead s .ctrl).getLsbD 0 = s.irqEn := by
  rw [csrRead, ctrlWord, flagAt_getLsbD _ (by decide), beq_self_eq_true, Bool.and_true]

theorem csrRead_status_bit1 (s : State) : (csrRead s .status).getLsbD 1 = s.done := by
  rw [csrRead, statusWord_getLsbD]
  simp

/-- A write of STATUS with bit 1 = 1 clears DONE (R25), so the interrupt deasserts (R263). -/
theorem clearStatus_irq {v : Word} (h : v.getLsbD 1 = true) (s : State) : (s.clearStatus v).irq = false := by
  simp [State.irq, h]

/-- After every completion DONE = 1 (R253), so the interrupt level is IRQ_EN. -/
theorem exec_irq {i : Instr} {s t : State} (h : exec i s = .next t) : t.irq = s.irqEn := by
  obtain ⟨e, -, rfl⟩ | ⟨c, -, rfl⟩ := exec_cases h <;> simp [State.irq]

/-- Settles O17: IRQ follows IRQ_EN and DONE through the rule of each register write and each completion. -/
theorem interruptLevel : Obligations.InterruptLevel := by
  unfold Obligations.InterruptLevel
  refine ⟨fun s => ?level, fun _ _ _ => exec_irq, fun s v => ⟨fun h => clearStatus_irq h s, fun hidle => ?issue,
    fun hv => ?enable, fun hv => ?reset, rfl, ?ack⟩⟩
  case level =>
    rw [csrRead_ctrl_bit0, csrRead_status_bit1]
    rfl
  case issue =>
    rw [csrWrite_cmd_of_idle hidle]
    exact Bool.and_false s.irqEn
  case enable =>
    rw [csrWrite_ctrl_of_not_reset s hv]
    exact ⟨rfl, rfl⟩
  case reset =>
    rw [csrWrite_ctrl_of_reset s hv]
    rfl
  case ack => simp [csrWrite, State.clearStatus]

/-! ### Abandoned outputs -/

/-- The output range of a running command is that of its rule's MemWrite, if it ends with one (R282). -/
theorem State.pendingOutput_of_ok {s : State} {e : Effect} (hrunning : s.phase = .running)
    (h : ruleOfWord s.cmdl s = .ok e) : s.pendingOutput = e.dmem.map (fun w => (w.1, w.2.length)) := by
  simp only [State.pendingOutput, hrunning, h]

theorem State.pendingOutput_of_error {s : State} {c : ErrCode} (hrunning : s.phase = .running)
    (h : ruleOfWord s.cmdl s = .error c) : s.pendingOutput = none := by
  simp only [State.pendingOutput, hrunning, h]

theorem State.softReset_dmem_of_some {s : State} {a n : Nat} (h : s.pendingOutput = some (a, n)) :
    s.softReset.dmem = s.dmem.write a (s.abandonedBytes a n) := by
  simp only [State.softReset, State.dmemAfterSoftReset, h]

/-- A soft reset that abandons no output leaves DMEM alone (R281). -/
theorem State.softReset_sameDmem_of_none {s : State} (h : s.pendingOutput = none) : SameDmem s s.softReset := by
  have hkept : s.softReset.dmem = s.dmem := by simp only [State.softReset, State.dmemAfterSoftReset, h]
  intro x
  rw [State.readByte, hkept]
  rfl

@[simp] theorem State.abandonedBytes_length (s : State) (a n : Nat) : (s.abandonedBytes a n).length = n := by
  simp [State.abandonedBytes]

theorem State.abandonedBytes_getElem (s : State) (a n : Nat) {k : Nat} (h : k < (s.abandonedBytes a n).length) :
    (s.abandonedBytes a n)[k] = Config.abandonedByte s.draws (a + k) := by
  simp [State.abandonedBytes]

/-- Each byte of an abandoned output range is its draw (R282). -/
theorem State.softReset_readByte_of_some {s : State} {a n k : Nat} (h : s.pendingOutput = some (a, n)) (hk : k < n) :
    s.softReset.readByte (a + k) = Config.abandonedByte s.draws (a + k) := by
  have hlen : k < (s.abandonedBytes a n).length := by simpa using hk
  rw [State.readByte_of_write_inside s _ a _ (State.softReset_dmem_of_some h) hlen, State.abandonedBytes_getElem]

/-- Settles O12: the soft reset writes draws over the output range of the rule, and nothing where there is none. -/
theorem abandonedCommandDrawsItsOutput : Obligations.AbandonedCommandDrawsItsOutput := by
  unfold Obligations.AbandonedCommandDrawsItsOutput
  intro s v hv hrunning
  rw [csrWrite_ctrl_of_reset s hv]
  refine ⟨fun e a bs hr he => ?stored, fun e hr he => ?nothing, fun c hr => ?error⟩
  case stored =>
    have hout : s.pendingOutput = some (a, bs.length) := by rw [State.pendingOutput_of_ok hrunning hr, he]; rfl
    exact ⟨sameDmemOutside_of_write (State.softReset_dmem_of_some hout) rfl (s.abandonedBytes_length a bs.length),
      fun k hk => State.softReset_readByte_of_some hout hk⟩
  case nothing =>
    exact State.softReset_sameDmem_of_none (by rw [State.pendingOutput_of_ok hrunning hr, he]; rfl)
  case error => exact State.softReset_sameDmem_of_none (State.pendingOutput_of_error hrunning hr)

end Sys2Proof.Machine
end
